-- ==== Sys2Proof/Word.lean ====
section
/-! DEFINITION. The bit-string types the spec names: bytes, half-words, words, the 128-bit contents of a vector
register, and 5-bit register numbers (00_scope.md rules R8 and R9, 30_encoding.md rule R88). -/

namespace Sys2Proof

/-- An 8-bit byte. -/
abbrev Byte := BitVec 8

/-- A 16-bit half-word. -/
abbrev Half := BitVec 16

/-- A 32-bit word: an instruction, a word element, the CR, the VSCR. -/
abbrev Word := BitVec 32

/-- A 64-bit address or general register. -/
abbrev DWord := BitVec 64

/-- The 128 bits of a vector register; bit 0 of the spec is the most significant. -/
abbrev Vec := BitVec 128

/-- The number of a vector or general register (rule R88). -/
abbrev Reg := BitVec 5

end Sys2Proof
end

