-- ==== Sys2Proof/Syntax.lean ====
section
/-! DEFINITION. The instructions: one constructor for each of the 199 rows of spec/opcode_table.json, in the
table's order. Operands are the fields of the encoding (30_encoding.md rules R82 to R95): register numbers are 5 bits,
immediates have the field's own width, and a compare carries its record bit Rc. Destinations come first;
`vmaddfp` and `vnmsubfp` list their fields in field order vA, vB, vC (rule R104). -/

namespace Sys2Proof

/-- The instruction set: category Vector of the Power ISA and the nine base instructions of
49_base_isa_subset.md and rule R451. -/
inductive Instr where
  /-- `lvsl`: Load Vector for Shift Left (rule R335). -/
  | lvsl (vd ra rb : Reg)
  /-- `lvebx`: Load Vector Element Byte Indexed (rule R292). -/
  | lvebx (vd ra rb : Reg)
  /-- `lvsr`: Load Vector for Shift Right (rule R336). -/
  | lvsr (vd ra rb : Reg)
  /-- `lvehx`: Load Vector Element Half Word Indexed (rule R293). -/
  | lvehx (vd ra rb : Reg)
  /-- `mviwsplt`: Move to Vector from Integer Word and Splat (rule R404). -/
  | mviwsplt (vd ra rb : Reg)
  /-- `lvewx`: Load Vector Element Word Indexed (rule R294). -/
  | lvewx (vd ra rb : Reg)
  /-- `lvx`: Load Vector Indexed (rule R295). -/
  | lvx (vd ra rb : Reg)
  /-- `mvidsplt`: Move to Vector from Integer Double Word and Splat (rule R403). -/
  | mvidsplt (vd ra rb : Reg)
  /-- `stvebx`: Store Vector Element Byte Indexed (rule R305). -/
  | stvebx (vs ra rb : Reg)
  /-- `stvehx`: Store Vector Element Half Word Indexed (rule R306). -/
  | stvehx (vs ra rb : Reg)
  /-- `stvewx`: Store Vector Element Word Indexed (rule R307). -/
  | stvewx (vs ra rb : Reg)
  /-- `stvx`: Store Vector Indexed (rule R308). -/
  | stvx (vs ra rb : Reg)
  /-- `lvexbx`: Load Vector Element Indexed Byte Indexed (rule R298). -/
  | lvexbx (vd ra rb : Reg)
  /-- `lvepxl`: Load Vector by External PID Indexed LRU (rule R304). -/
  | lvepxl (vd ra rb : Reg)
  /-- `lvexhx`: Load Vector Element Indexed Half Word Indexed (rule R299). -/
  | lvexhx (vd ra rb : Reg)
  /-- `lvepx`: Load Vector by External PID Indexed (rule R303). -/
  | lvepx (vd ra rb : Reg)
  /-- `lvexwx`: Load Vector Element Indexed Word Indexed (rule R300). -/
  | lvexwx (vd ra rb : Reg)
  /-- `lvxl`: Load Vector Indexed LRU (rule R297). -/
  | lvxl (vd ra rb : Reg)
  /-- `stvexbx`: Store Vector Element Indexed Byte Indexed (rule R310). -/
  | stvexbx (vs ra rb : Reg)
  /-- `stvexhx`: Store Vector Element Indexed Half Word Indexed (rule R311). -/
  | stvexhx (vs ra rb : Reg)
  /-- `stvexwx`: Store Vector Element Indexed Word Indexed (rule R312). -/
  | stvexwx (vs ra rb : Reg)
  /-- `stvxl`: Store Vector Indexed LRU (rule R309). -/
  | stvxl (vs ra rb : Reg)
  /-- `lvtrx`: Load Vector to Right Indexed (rule R330). -/
  | lvtrx (vd ra rb : Reg)
  /-- `lvtlx`: Load Vector to Left Indexed (rule R327). -/
  | lvtlx (vd ra rb : Reg)
  /-- `lvswx`: Load Vector with Left-Right Swap Indexed (rule R332). -/
  | lvswx (vd ra rb : Reg)
  /-- `stvfrx`: Store Vector from Right Indexed (rule R339). -/
  | stvfrx (vs ra rb : Reg)
  /-- `stvflx`: Store Vector from Left Indexed (rule R337). -/
  | stvflx (vs ra rb : Reg)
  /-- `stvswx`: Store Vector with Left-Right Swap Indexed (rule R341). -/
  | stvswx (vs ra rb : Reg)
  /-- `lvsm`: Load Vector for Swap Merge (rule R334). -/
  | lvsm (vd ra rb : Reg)
  /-- `stvepxl`: Store Vector by External PID Indexed LRU (rule R314). -/
  | stvepxl (vs ra rb : Reg)
  /-- `lvtrxl`: Load Vector to Right Indexed LRU (rule R331). -/
  | lvtrxl (vd ra rb : Reg)
  /-- `stvepx`: Store Vector by External PID Indexed (rule R313). -/
  | stvepx (vs ra rb : Reg)
  /-- `lvtlxl`: Load Vector to Left Indexed LRU (rule R328). -/
  | lvtlxl (vd ra rb : Reg)
  /-- `lvswxl`: Load Vector with Left-Right Swap Indexed LRU (rule R333). -/
  | lvswxl (vd ra rb : Reg)
  /-- `stvfrxl`: Store Vector from Right Indexed LRU (rule R340). -/
  | stvfrxl (vs ra rb : Reg)
  /-- `stvflxl`: Store Vector from Left Indexed LRU (rule R338). -/
  | stvflxl (vs ra rb : Reg)
  /-- `stvswxl`: Store Vector with Left-Right Swap Indexed LRU (rule R342). -/
  | stvswxl (vs ra rb : Reg)
  /-- `dst`: Data Stream Touch (rule R410). -/
  | dst (strm : BitVec 2) (ra rb : Reg)
  /-- `dstt`: Data Stream Touch Transient (rule R411). -/
  | dstt (strm : BitVec 2) (ra rb : Reg)
  /-- `dstst`: Data Stream Touch for Store (rule R412). -/
  | dstst (strm : BitVec 2) (ra rb : Reg)
  /-- `dststt`: Data Stream Touch for Store Transient (rule R413). -/
  | dststt (strm : BitVec 2) (ra rb : Reg)
  /-- `dss`: Data Stream Stop (rule R408). -/
  | dss (strm : BitVec 2)
  /-- `dssall`: Data Stream Stop (all streams) (rule R409). -/
  | dssall (strm : BitVec 2)
  /-- `vaddubm`: Vector Add Unsigned Byte Modulo (rule R112). -/
  | vaddubm (vd va vb : Reg)
  /-- `vmaxub`: Vector Maximum Unsigned Byte (rule R141). -/
  | vmaxub (vd va vb : Reg)
  /-- `vrlb`: Vector Rotate Left Integer Byte (rule R217). -/
  | vrlb (vd va vb : Reg)
  /-- `vmuloub`: Vector Multiply Odd Unsigned Byte (rule R175). -/
  | vmuloub (vd va vb : Reg)
  /-- `vaddfp`: Vector Add Floating-Point (rule R250). -/
  | vaddfp (vd va vb : Reg)
  /-- `vmrghb`: Vector Merge High Byte (rule R366). -/
  | vmrghb (vd va vb : Reg)
  /-- `vpkuhum`: Vector Pack Unsigned Half Word Unsigned Modulo (rule R351). -/
  | vpkuhum (vd va vb : Reg)
  /-- `vadduhm`: Vector Add Unsigned Half Word Modulo (rule R113). -/
  | vadduhm (vd va vb : Reg)
  /-- `vmaxuh`: Vector Maximum Unsigned Half Word (rule R142). -/
  | vmaxuh (vd va vb : Reg)
  /-- `vrlh`: Vector Rotate Left Integer Half Word (rule R218). -/
  | vrlh (vd va vb : Reg)
  /-- `vmulouh`: Vector Multiply Odd Unsigned Half Word (rule R176). -/
  | vmulouh (vd va vb : Reg)
  /-- `vsubfp`: Vector Subtract Floating-Point (rule R251). -/
  | vsubfp (vd va vb : Reg)
  /-- `vmrghh`: Vector Merge High Half Word (rule R367). -/
  | vmrghh (vd va vb : Reg)
  /-- `vpkuwum`: Vector Pack Unsigned Word Unsigned Modulo (rule R352). -/
  | vpkuwum (vd va vb : Reg)
  /-- `vadduwm`: Vector Add Unsigned Word Modulo (rule R114). -/
  | vadduwm (vd va vb : Reg)
  /-- `vmaxuw`: Vector Maximum Unsigned Word (rule R143). -/
  | vmaxuw (vd va vb : Reg)
  /-- `vrlw`: Vector Rotate Left Integer Word (rule R219). -/
  | vrlw (vd va vb : Reg)
  /-- `vmrghw`: Vector Merge High Word (rule R368). -/
  | vmrghw (vd va vb : Reg)
  /-- `vpkuhus`: Vector Pack Unsigned Half Word Unsigned Saturate (rule R353). -/
  | vpkuhus (vd va vb : Reg)
  /-- `vpkuwus`: Vector Pack Unsigned Word Unsigned Saturate (rule R354). -/
  | vpkuwus (vd va vb : Reg)
  /-- `vmaxsb`: Vector Maximum Signed Byte (rule R144). -/
  | vmaxsb (vd va vb : Reg)
  /-- `vslb`: Vector Shift Left Integer Byte (rule R220). -/
  | vslb (vd va vb : Reg)
  /-- `vmulosb`: Vector Multiply Odd Signed Byte (rule R177). -/
  | vmulosb (vd va vb : Reg)
  /-- `vmrglb`: Vector Merge Low Byte (rule R369). -/
  | vmrglb (vd va vb : Reg)
  /-- `vpkshus`: Vector Pack Signed Half Word Unsigned Saturate (rule R355). -/
  | vpkshus (vd va vb : Reg)
  /-- `vmaxsh`: Vector Maximum Signed Half Word (rule R145). -/
  | vmaxsh (vd va vb : Reg)
  /-- `vslh`: Vector Shift Left Integer Half Word (rule R221). -/
  | vslh (vd va vb : Reg)
  /-- `vmulosh`: Vector Multiply Odd Signed Half Word (rule R178). -/
  | vmulosh (vd va vb : Reg)
  /-- `vmrglh`: Vector Merge Low Half Word (rule R370). -/
  | vmrglh (vd va vb : Reg)
  /-- `vpkswus`: Vector Pack Signed Word Unsigned Saturate (rule R356). -/
  | vpkswus (vd va vb : Reg)
  /-- `vaddcuw`: Vector Add and Write Carry-Out Unsigned Word (rule R115). -/
  | vaddcuw (vd va vb : Reg)
  /-- `vmaxsw`: Vector Maximum Signed Word (rule R146). -/
  | vmaxsw (vd va vb : Reg)
  /-- `vslw`: Vector Shift Left Integer Word (rule R222). -/
  | vslw (vd va vb : Reg)
  /-- `vmrglw`: Vector Merge Low Word (rule R371). -/
  | vmrglw (vd va vb : Reg)
  /-- `vpkshss`: Vector Pack Signed Half Word Signed Saturate (rule R357). -/
  | vpkshss (vd va vb : Reg)
  /-- `vsl`: Vector Shift Left (rule R380). -/
  | vsl (vd va vb : Reg)
  /-- `vpkswss`: Vector Pack Signed Word Signed Saturate (rule R358). -/
  | vpkswss (vd va vb : Reg)
  /-- `vaddubs`: Vector Add Unsigned Byte Saturate (rule R116). -/
  | vaddubs (vd va vb : Reg)
  /-- `vminub`: Vector Minimum Unsigned Byte (rule R147). -/
  | vminub (vd va vb : Reg)
  /-- `vsrb`: Vector Shift Right Byte (rule R223). -/
  | vsrb (vd va vb : Reg)
  /-- `vmuleub`: Vector Multiply Even Unsigned Byte (rule R171). -/
  | vmuleub (vd va vb : Reg)
  /-- `vadduhs`: Vector Add Unsigned Half Word Saturate (rule R117). -/
  | vadduhs (vd va vb : Reg)
  /-- `vminuh`: Vector Minimum Unsigned Half Word (rule R148). -/
  | vminuh (vd va vb : Reg)
  /-- `vsrh`: Vector Shift Right Half Word (rule R224). -/
  | vsrh (vd va vb : Reg)
  /-- `vmuleuh`: Vector Multiply Even Unsigned Half Word (rule R172). -/
  | vmuleuh (vd va vb : Reg)
  /-- `vadduws`: Vector Add Unsigned Word Saturate (rule R118). -/
  | vadduws (vd va vb : Reg)
  /-- `vminuw`: Vector Minimum Unsigned Word (rule R149). -/
  | vminuw (vd va vb : Reg)
  /-- `vsrw`: Vector Shift Right Word (rule R225). -/
  | vsrw (vd va vb : Reg)
  /-- `vsr`: Vector Shift Right (rule R381). -/
  | vsr (vd va vb : Reg)
  /-- `vaddsbs`: Vector Add Signed Byte Saturate (rule R119). -/
  | vaddsbs (vd va vb : Reg)
  /-- `vminsb`: Vector Minimum Signed Byte (rule R150). -/
  | vminsb (vd va vb : Reg)
  /-- `vsrab`: Vector Shift Right Algebraic Byte (rule R226). -/
  | vsrab (vd va vb : Reg)
  /-- `vmulesb`: Vector Multiply Even Signed Byte (rule R173). -/
  | vmulesb (vd va vb : Reg)
  /-- `vpkpx`: Vector Pack Pixel (rule R359). -/
  | vpkpx (vd va vb : Reg)
  /-- `vaddshs`: Vector Add Signed Half Word Saturate (rule R120). -/
  | vaddshs (vd va vb : Reg)
  /-- `vminsh`: Vector Minimum Signed Half Word (rule R151). -/
  | vminsh (vd va vb : Reg)
  /-- `vsrah`: Vector Shift Right Algebraic Half Word (rule R227). -/
  | vsrah (vd va vb : Reg)
  /-- `vmulesh`: Vector Multiply Even Signed Half Word (rule R174). -/
  | vmulesh (vd va vb : Reg)
  /-- `vaddsws`: Vector Add Signed Word Saturate (rule R121). -/
  | vaddsws (vd va vb : Reg)
  /-- `vminsw`: Vector Minimum Signed Word (rule R152). -/
  | vminsw (vd va vb : Reg)
  /-- `vsraw`: Vector Shift Right Algebraic Word (rule R228). -/
  | vsraw (vd va vb : Reg)
  /-- `vsububm`: Vector Subtract Unsigned Byte Modulo (rule R122). -/
  | vsububm (vd va vb : Reg)
  /-- `vavgub`: Vector Average Unsigned Byte (rule R132). -/
  | vavgub (vd va vb : Reg)
  /-- `vabsdub`: Vector Absolute Difference Unsigned Byte (rule R138). -/
  | vabsdub (vd va vb : Reg)
  /-- `vand`: Vector Logical AND (rule R211). -/
  | vand (vd va vb : Reg)
  /-- `vmaxfp`: Vector Maximum Floating-Point (rule R254). -/
  | vmaxfp (vd va vb : Reg)
  /-- `vslo`: Vector Shift Left by Octet (rule R382). -/
  | vslo (vd va vb : Reg)
  /-- `vsubuhm`: Vector Subtract Unsigned Half Word Modulo (rule R123). -/
  | vsubuhm (vd va vb : Reg)
  /-- `vavguh`: Vector Average Unsigned Half Word (rule R133). -/
  | vavguh (vd va vb : Reg)
  /-- `vabsduh`: Vector Absolute Difference Unsigned Half Word (rule R139). -/
  | vabsduh (vd va vb : Reg)
  /-- `vandc`: Vector Logical AND with Complement (rule R212). -/
  | vandc (vd va vb : Reg)
  /-- `vminfp`: Vector Minimum Floating-Point (rule R255). -/
  | vminfp (vd va vb : Reg)
  /-- `vsro`: Vector Shift Right by Octet (rule R383). -/
  | vsro (vd va vb : Reg)
  /-- `vsubuwm`: Vector Subtract Unsigned Word Modulo (rule R124). -/
  | vsubuwm (vd va vb : Reg)
  /-- `vavguw`: Vector Average Unsigned Word (rule R134). -/
  | vavguw (vd va vb : Reg)
  /-- `vabsduw`: Vector Absolute Difference Unsigned Word (rule R140). -/
  | vabsduw (vd va vb : Reg)
  /-- `vor`: Vector Logical OR (rule R213). -/
  | vor (vd va vb : Reg)
  /-- `vxor`: Vector Logical XOR (rule R214). -/
  | vxor (vd va vb : Reg)
  /-- `vavgsb`: Vector Average Signed Byte (rule R135). -/
  | vavgsb (vd va vb : Reg)
  /-- `vnor`: Vector Logical NOR (rule R215). -/
  | vnor (vd va vb : Reg)
  /-- `vavgsh`: Vector Average Signed Half Word (rule R136). -/
  | vavgsh (vd va vb : Reg)
  /-- `vsubcuw`: Vector Subtract and Write Carry-Out Unsigned Word (rule R125). -/
  | vsubcuw (vd va vb : Reg)
  /-- `vavgsw`: Vector Average Signed Word (rule R137). -/
  | vavgsw (vd va vb : Reg)
  /-- `vsububs`: Vector Subtract Unsigned Byte Saturate (rule R126). -/
  | vsububs (vd va vb : Reg)
  /-- `vsum4ubs`: Vector Sum Across Partial (rule R190). -/
  | vsum4ubs (vd va vb : Reg)
  /-- `vsubuhs`: Vector Subtract Unsigned Half Word Saturate (rule R127). -/
  | vsubuhs (vd va vb : Reg)
  /-- `vsum4shs`: Vector Sum Across Partial (rule R192). -/
  | vsum4shs (vd va vb : Reg)
  /-- `vsubuws`: Vector Subtract Unsigned Word Saturate (rule R128). -/
  | vsubuws (vd va vb : Reg)
  /-- `vsum2sws`: Vector Sum Across Partial (rule R189). -/
  | vsum2sws (vd va vb : Reg)
  /-- `vsubsbs`: Vector Subtract Signed Byte Saturate (rule R129). -/
  | vsubsbs (vd va vb : Reg)
  /-- `vsum4sbs`: Vector Sum Across Partial (rule R191). -/
  | vsum4sbs (vd va vb : Reg)
  /-- `vsubshs`: Vector Subtract Signed Half Word Saturate (rule R130). -/
  | vsubshs (vd va vb : Reg)
  /-- `vsubsws`: Vector Subtract Signed Word Saturate (rule R131). -/
  | vsubsws (vd va vb : Reg)
  /-- `vsumsws`: Vector Sum Across Signed Word Saturate (rule R188). -/
  | vsumsws (vd va vb : Reg)
  /-- `vrefp`: Vector Reciprocal Estimate Floating-Point (rule R272). -/
  | vrefp (vd vb : Reg)
  /-- `vrsqrtefp`: Vector Reciprocal Square Root Estimate Floating-Point (rule R273). -/
  | vrsqrtefp (vd vb : Reg)
  /-- `vexptefp`: Vector 2 Raised to the Exponent Estimate Floating-Point (rule R275). -/
  | vexptefp (vd vb : Reg)
  /-- `vlogefp`: Vector Log2 Estimate Floating-Point (rule R274). -/
  | vlogefp (vd vb : Reg)
  /-- `vrfin`: Vector Round to Floating-Point Integer Nearest (rule R264). -/
  | vrfin (vd vb : Reg)
  /-- `vrfiz`: Vector Round to Floating-Point Integer Toward Zero (rule R265). -/
  | vrfiz (vd vb : Reg)
  /-- `vrfip`: Vector Round to Floating-Point Integer Toward Positive Infinity (rule R266). -/
  | vrfip (vd vb : Reg)
  /-- `vrfim`: Vector Round to Floating-Point Integer Toward Minus Infinity (rule R267). -/
  | vrfim (vd vb : Reg)
  /-- `vupkhsb`: Vector Unpack High Signed Byte (rule R360). -/
  | vupkhsb (vd vb : Reg)
  /-- `vupkhsh`: Vector Unpack High Signed Half Word (rule R361). -/
  | vupkhsh (vd vb : Reg)
  /-- `vupklsb`: Vector Unpack Low Signed Byte (rule R362). -/
  | vupklsb (vd vb : Reg)
  /-- `vupklsh`: Vector Unpack Low Signed Half Word (rule R363). -/
  | vupklsh (vd vb : Reg)
  /-- `vupkhpx`: Vector Unpack High Pixel (rule R364). -/
  | vupkhpx (vd vb : Reg)
  /-- `vupklpx`: Vector Unpack Low Pixel (rule R365). -/
  | vupklpx (vd vb : Reg)
  /-- `vcfux`: Vector Convert from Unsigned Fixed-Point Word (rule R260). -/
  | vcfux (vd vb : Reg) (uimm : BitVec 5)
  /-- `vcfsx`: Vector Convert from Signed Fixed-Point Word (rule R261). -/
  | vcfsx (vd vb : Reg) (uimm : BitVec 5)
  /-- `vctuxs`: Vector Convert to Unsigned Fixed-Point Word Saturate (rule R262). -/
  | vctuxs (vd vb : Reg) (uimm : BitVec 5)
  /-- `vctsxs`: Vector Convert to Signed Fixed-Point Word Saturate (rule R263). -/
  | vctsxs (vd vb : Reg) (uimm : BitVec 5)
  /-- `vspltb`: Vector Splat Byte (rule R372). -/
  | vspltb (vd vb : Reg) (uimm : BitVec 4)
  /-- `vsplth`: Vector Splat Half Word (rule R373). -/
  | vsplth (vd vb : Reg) (uimm : BitVec 3)
  /-- `vspltw`: Vector Splat Word (rule R374). -/
  | vspltw (vd vb : Reg) (uimm : BitVec 2)
  /-- `vspltisb`: Vector Splat Immediate Signed Byte (rule R375). -/
  | vspltisb (vd : Reg) (simm : BitVec 5)
  /-- `vspltish`: Vector Splat Immediate Signed Half Word (rule R376). -/
  | vspltish (vd : Reg) (simm : BitVec 5)
  /-- `vspltisw`: Vector Splat Immediate Signed Word (rule R377). -/
  | vspltisw (vd : Reg) (simm : BitVec 5)
  /-- `mfvscr`: Move from Vector Status and Control Register (rule R400). -/
  | mfvscr (vd : Reg)
  /-- `mtvscr`: Move to Vector Status and Control Register (rule R401). -/
  | mtvscr (vb : Reg)
  /-- `vcmpequb`: Vector Compare Equal-to Unsigned Byte (rule R201). -/
  | vcmpequb (vd va vb : Reg) (rc : Bool)
  /-- `vcmpequh`: Vector Compare Equal-to Unsigned Half Word (rule R202). -/
  | vcmpequh (vd va vb : Reg) (rc : Bool)
  /-- `vcmpequw`: Vector Compare Equal-to Unsigned Word (rule R203). -/
  | vcmpequw (vd va vb : Reg) (rc : Bool)
  /-- `vcmpeqfp`: Vector Compare Equal-to Floating-Point (rule R256). -/
  | vcmpeqfp (vd va vb : Reg) (rc : Bool)
  /-- `vcmpgefp`: Vector Compare Greater-Than-or-Equal-to Floating-Point (rule R257). -/
  | vcmpgefp (vd va vb : Reg) (rc : Bool)
  /-- `vcmpgtub`: Vector Compare Greater-Than Unsigned Byte (rule R204). -/
  | vcmpgtub (vd va vb : Reg) (rc : Bool)
  /-- `vcmpgtuh`: Vector Compare Greater-Than Unsigned Half Word (rule R205). -/
  | vcmpgtuh (vd va vb : Reg) (rc : Bool)
  /-- `vcmpgtuw`: Vector Compare Greater-Than Unsigned Word (rule R206). -/
  | vcmpgtuw (vd va vb : Reg) (rc : Bool)
  /-- `vcmpgtfp`: Vector Compare Greater-Than Floating-Point (rule R258). -/
  | vcmpgtfp (vd va vb : Reg) (rc : Bool)
  /-- `vcmpgtsb`: Vector Compare Greater-Than Signed Byte (rule R207). -/
  | vcmpgtsb (vd va vb : Reg) (rc : Bool)
  /-- `vcmpgtsh`: Vector Compare Greater-Than Signed Half Word (rule R208). -/
  | vcmpgtsh (vd va vb : Reg) (rc : Bool)
  /-- `vcmpgtsw`: Vector Compare Greater-Than Signed Word (rule R209). -/
  | vcmpgtsw (vd va vb : Reg) (rc : Bool)
  /-- `vcmpbfp`: Vector Compare Bounds Floating-Point (rule R259). -/
  | vcmpbfp (vd va vb : Reg) (rc : Bool)
  /-- `vmhaddshs`: Vector Multiply High and Add Signed Half Word Saturate (rule R179). -/
  | vmhaddshs (vd va vb vc : Reg)
  /-- `vmhraddshs`: Vector Multiply High Round and Add Signed Half Word Saturate (rule R180). -/
  | vmhraddshs (vd va vb vc : Reg)
  /-- `vmladduhm`: Vector Multiply Low and Add Unsigned Half Word Modulo (rule R181). -/
  | vmladduhm (vd va vb vc : Reg)
  /-- `vmsumubm`: Vector Multiply Sum Unsigned Byte Modulo (rule R182). -/
  | vmsumubm (vd va vb vc : Reg)
  /-- `vmsummbm`: Vector Multiply Sum Mixed-Sign Byte Modulo (rule R183). -/
  | vmsummbm (vd va vb vc : Reg)
  /-- `vmsumuhm`: Vector Multiply Sum Unsigned Half Word Modulo (rule R184). -/
  | vmsumuhm (vd va vb vc : Reg)
  /-- `vmsumuhs`: Vector Multiply Sum Unsigned Half Word Saturate (rule R185). -/
  | vmsumuhs (vd va vb vc : Reg)
  /-- `vmsumshm`: Vector Multiply Sum Signed Half Word Modulo (rule R186). -/
  | vmsumshm (vd va vb vc : Reg)
  /-- `vmsumshs`: Vector Multiply Sum Signed Half Word Saturate (rule R187). -/
  | vmsumshs (vd va vb vc : Reg)
  /-- `vsel`: Vector Conditional Select (rule R379). -/
  | vsel (vd va vb vc : Reg)
  /-- `vperm`: Vector Permute (rule R378). -/
  | vperm (vd va vb vc : Reg)
  /-- `vmaddfp`: Vector Multiply-Add Floating-Point (rule R252). -/
  | vmaddfp (vd va vb vc : Reg)
  /-- `vnmsubfp`: Vector Negative Multiply-Subtract Floating-Point (rule R253). -/
  | vnmsubfp (vd va vb vc : Reg)
  /-- `vsldoi`: Vector Shift Left Double by Octet Immediate (rule R384). -/
  | vsldoi (vd va vb : Reg) (shb : BitVec 4)
  /-- `addi`: Add Immediate (rule R421). -/
  | addi (rd ra : Reg) (simm : BitVec 16)
  /-- `addis`: Add Immediate Shifted (rule R422). -/
  | addis (rd ra : Reg) (simm : BitVec 16)
  /-- `bc`: Branch Conditional (rule R426). -/
  | bc (bo bi : BitVec 5) (bd : BitVec 14)
  /-- `b`: Branch (rule R425). -/
  | b (li : BitVec 24)
  /-- `ori`: OR Immediate (rule R427). -/
  | ori (ra rs : Reg) (uimm : BitVec 16)
  /-- `srawi`: Shift Right Algebraic Word Immediate (rule R423). -/
  | srawi (ra rs : Reg) (sh : BitVec 5)
  /-- `mfspr`: Move From Special-Purpose Register (rule R428). -/
  | mfspr (rd : Reg) (spr : BitVec 10)
  /-- `mtspr`: Move To Special-Purpose Register (rule R429). -/
  | mtspr (spr : BitVec 10) (rs : Reg)
  /-- `rfi`: Return from Interrupt (rule R451). -/
  | rfi
  deriving DecidableEq, Repr

end Sys2Proof
end

