-- ==== Sys2Proof/WellFormed.lean ====
section
/-! DEFINITION. Which terms of `Instr` the spec gives a meaning to. Every register number and immediate that fits its
field is legal (30_encoding.md rules R88 and R95), and the operand types hold no other; what is left to check is the SPR
number of `mfspr` and `mtspr` (49_base_isa_subset.md rules R428 and R429). -/

namespace Sys2Proof

/-- The special-purpose registers an instruction can name. -/
inductive Spr where
  /-- SPR 8 (rule R424). -/
  | lr
  /-- SPR 9 (rule R424). -/
  | ctr
  /-- SPR 26 (rule R451), supervisor only. -/
  | srr0
  /-- SPR 27 (rule R451), supervisor only. -/
  | srr1
  /-- SPR 256 (rule R30). -/
  | vrsave
  /-- SPR 528 (rule R32), supervisor only. -/
  | ivor32
  /-- SPR 529 (rule R32), supervisor only. -/
  | ivor33
  deriving DecidableEq, Repr

/-- The register of an SPR number (rules R30, R32, R424, R451). -/
def Spr.ofNum (n : BitVec 10) : Option Spr :=
  match n.toNat with
  | 8 => some .lr
  | 9 => some .ctr
  | 26 => some .srr0
  | 27 => some .srr1
  | 256 => some .vrsave
  | 528 => some .ivor32
  | 529 => some .ivor33
  | _ => none

/-- Is the register accessible only in supervisor state (rules R32, R428, R429, R460)? -/
def Spr.supervisor : Spr → Bool
  | .srr0 | .srr1 | .ivor32 | .ivor33 => true
  | .lr | .ctr | .vrsave => false

/-- An instruction the spec gives a meaning to. -/
def WellFormed (i : Instr) : Bool :=
  match i with
  | .mfspr _ spr => (Spr.ofNum spr).isSome
  | .mtspr spr _ => (Spr.ofNum spr).isSome
  | _ => true

end Sys2Proof
end

