-- ==== Sys2Proof/Decode.lean ====
section
/-! DEFINITION. Decoding a 32-bit instruction word (30_encoding.md rules R80 to R102, 49_base_isa_subset.md rule
R420) and, after it, the encoder written from the same tables. Decoding is total: a word that matches no row
of spec/opcode_table.json is rejected by name. Reserved fields are ignored (rule R94). -/

namespace Sys2Proof

/-- Bits `i` to `i + n - 1` of an instruction word, `i` counted from the most significant bit as the spec numbers
them (rule R80): `insn[i : i+n-1]`. -/
def insnField (w : BitVec 32) (i n : Nat) : BitVec n := w.extractLsb' (32 - i - n) n

/-- The X-form rows of primary opcode 31 that are loads, stores and moves (rule R96); `d`, `a`, `b` are bits 6-10,
11-15 and 16-20. -/
def decodeX (xo : Nat) (d a b : Reg) : Option Instr :=
  match xo with
  | 6 => some (.lvsl d a b)
  | 7 => some (.lvebx d a b)
  | 38 => some (.lvsr d a b)
  | 39 => some (.lvehx d a b)
  | 46 => some (.mviwsplt d a b)
  | 71 => some (.lvewx d a b)
  | 103 => some (.lvx d a b)
  | 110 => some (.mvidsplt d a b)
  | 135 => some (.stvebx d a b)
  | 167 => some (.stvehx d a b)
  | 199 => some (.stvewx d a b)
  | 231 => some (.stvx d a b)
  | 261 => some (.lvexbx d a b)
  | 263 => some (.lvepxl d a b)
  | 293 => some (.lvexhx d a b)
  | 295 => some (.lvepx d a b)
  | 325 => some (.lvexwx d a b)
  | 359 => some (.lvxl d a b)
  | 389 => some (.stvexbx d a b)
  | 421 => some (.stvexhx d a b)
  | 453 => some (.stvexwx d a b)
  | 487 => some (.stvxl d a b)
  | 549 => some (.lvtrx d a b)
  | 581 => some (.lvtlx d a b)
  | 613 => some (.lvswx d a b)
  | 677 => some (.stvfrx d a b)
  | 709 => some (.stvflx d a b)
  | 741 => some (.stvswx d a b)
  | 773 => some (.lvsm d a b)
  | 775 => some (.stvepxl d a b)
  | 805 => some (.lvtrxl d a b)
  | 807 => some (.stvepx d a b)
  | 837 => some (.lvtlxl d a b)
  | 869 => some (.lvswxl d a b)
  | 933 => some (.stvfrxl d a b)
  | 965 => some (.stvflxl d a b)
  | 997 => some (.stvswxl d a b)
  | _ => none

/-- The stream rows of primary opcode 31 (rule R87): bit 6 tells the two names of an extended opcode apart, bits 9-10
are STRM. -/
def decodeStream (xo : Nat) (d a b : Reg) : Option Instr :=
  match xo, d.getLsbD 4 with
  | 342, false => some (.dst (d.setWidth 2) a b)
  | 342, true => some (.dstt (d.setWidth 2) a b)
  | 374, false => some (.dstst (d.setWidth 2) a b)
  | 374, true => some (.dststt (d.setWidth 2) a b)
  | 822, false => some (.dss (d.setWidth 2))
  | 822, true => some (.dssall (d.setWidth 2))
  | _, _ => none

/-- The three base rows of primary opcode 31 (rules R423, R428, R429): `srawi` has only Rc = 0, and the SPR number is the
two 5-bit fields with their halves swapped. -/
def decodeBase31 (xo : Nat) (d a b : Reg) (rc : Bool) : Option Instr :=
  match xo with
  | 824 => if rc then none else some (.srawi a d b)
  | 339 => some (.mfspr d (b ++ a))
  | 467 => some (.mtspr (b ++ a) d)
  | _ => none

/-- The VX-form rows of primary opcode 4 (rule R97); `a` (bits 11-15) is the immediate of the splat and convert rows. -/
def decodeVX (xo : Nat) (d a b : Reg) : Option Instr :=
  match xo with
  | 0 => some (.vaddubm d a b)
  | 2 => some (.vmaxub d a b)
  | 4 => some (.vrlb d a b)
  | 8 => some (.vmuloub d a b)
  | 10 => some (.vaddfp d a b)
  | 12 => some (.vmrghb d a b)
  | 14 => some (.vpkuhum d a b)
  | 64 => some (.vadduhm d a b)
  | 66 => some (.vmaxuh d a b)
  | 68 => some (.vrlh d a b)
  | 72 => some (.vmulouh d a b)
  | 74 => some (.vsubfp d a b)
  | 76 => some (.vmrghh d a b)
  | 78 => some (.vpkuwum d a b)
  | 128 => some (.vadduwm d a b)
  | 130 => some (.vmaxuw d a b)
  | 132 => some (.vrlw d a b)
  | 140 => some (.vmrghw d a b)
  | 142 => some (.vpkuhus d a b)
  | 206 => some (.vpkuwus d a b)
  | 258 => some (.vmaxsb d a b)
  | 260 => some (.vslb d a b)
  | 264 => some (.vmulosb d a b)
  | 268 => some (.vmrglb d a b)
  | 270 => some (.vpkshus d a b)
  | 322 => some (.vmaxsh d a b)
  | 324 => some (.vslh d a b)
  | 328 => some (.vmulosh d a b)
  | 332 => some (.vmrglh d a b)
  | 334 => some (.vpkswus d a b)
  | 384 => some (.vaddcuw d a b)
  | 386 => some (.vmaxsw d a b)
  | 388 => some (.vslw d a b)
  | 396 => some (.vmrglw d a b)
  | 398 => some (.vpkshss d a b)
  | 452 => some (.vsl d a b)
  | 462 => some (.vpkswss d a b)
  | 512 => some (.vaddubs d a b)
  | 514 => some (.vminub d a b)
  | 516 => some (.vsrb d a b)
  | 520 => some (.vmuleub d a b)
  | 576 => some (.vadduhs d a b)
  | 578 => some (.vminuh d a b)
  | 580 => some (.vsrh d a b)
  | 584 => some (.vmuleuh d a b)
  | 640 => some (.vadduws d a b)
  | 642 => some (.vminuw d a b)
  | 644 => some (.vsrw d a b)
  | 708 => some (.vsr d a b)
  | 768 => some (.vaddsbs d a b)
  | 770 => some (.vminsb d a b)
  | 772 => some (.vsrab d a b)
  | 776 => some (.vmulesb d a b)
  | 782 => some (.vpkpx d a b)
  | 832 => some (.vaddshs d a b)
  | 834 => some (.vminsh d a b)
  | 836 => some (.vsrah d a b)
  | 840 => some (.vmulesh d a b)
  | 896 => some (.vaddsws d a b)
  | 898 => some (.vminsw d a b)
  | 900 => some (.vsraw d a b)
  | 1024 => some (.vsububm d a b)
  | 1026 => some (.vavgub d a b)
  | 1027 => some (.vabsdub d a b)
  | 1028 => some (.vand d a b)
  | 1034 => some (.vmaxfp d a b)
  | 1036 => some (.vslo d a b)
  | 1088 => some (.vsubuhm d a b)
  | 1090 => some (.vavguh d a b)
  | 1091 => some (.vabsduh d a b)
  | 1092 => some (.vandc d a b)
  | 1098 => some (.vminfp d a b)
  | 1100 => some (.vsro d a b)
  | 1152 => some (.vsubuwm d a b)
  | 1154 => some (.vavguw d a b)
  | 1155 => some (.vabsduw d a b)
  | 1156 => some (.vor d a b)
  | 1220 => some (.vxor d a b)
  | 1282 => some (.vavgsb d a b)
  | 1284 => some (.vnor d a b)
  | 1346 => some (.vavgsh d a b)
  | 1408 => some (.vsubcuw d a b)
  | 1410 => some (.vavgsw d a b)
  | 1536 => some (.vsububs d a b)
  | 1544 => some (.vsum4ubs d a b)
  | 1600 => some (.vsubuhs d a b)
  | 1608 => some (.vsum4shs d a b)
  | 1664 => some (.vsubuws d a b)
  | 1672 => some (.vsum2sws d a b)
  | 1792 => some (.vsubsbs d a b)
  | 1800 => some (.vsum4sbs d a b)
  | 1856 => some (.vsubshs d a b)
  | 1920 => some (.vsubsws d a b)
  | 1928 => some (.vsumsws d a b)
  | 266 => some (.vrefp d b)
  | 330 => some (.vrsqrtefp d b)
  | 394 => some (.vexptefp d b)
  | 458 => some (.vlogefp d b)
  | 522 => some (.vrfin d b)
  | 586 => some (.vrfiz d b)
  | 650 => some (.vrfip d b)
  | 714 => some (.vrfim d b)
  | 526 => some (.vupkhsb d b)
  | 590 => some (.vupkhsh d b)
  | 654 => some (.vupklsb d b)
  | 718 => some (.vupklsh d b)
  | 846 => some (.vupkhpx d b)
  | 974 => some (.vupklpx d b)
  | 778 => some (.vcfux d b a)
  | 842 => some (.vcfsx d b a)
  | 906 => some (.vctuxs d b a)
  | 970 => some (.vctsxs d b a)
  | 524 => some (.vspltb d b (a.setWidth 4))
  | 588 => some (.vsplth d b (a.setWidth 3))
  | 652 => some (.vspltw d b (a.setWidth 2))
  | 780 => some (.vspltisb d a)
  | 844 => some (.vspltish d a)
  | 908 => some (.vspltisw d a)
  | 1540 => some (.mfvscr d)
  | 1604 => some (.mtvscr b)
  | _ => none

/-- The VXR-form rows of primary opcode 4: the 13 vector compares (rule R98). -/
def decodeVXR (xo : Nat) (d a b : Reg) (rc : Bool) : Option Instr :=
  match xo with
  | 6 => some (.vcmpequb d a b rc)
  | 70 => some (.vcmpequh d a b rc)
  | 134 => some (.vcmpequw d a b rc)
  | 198 => some (.vcmpeqfp d a b rc)
  | 454 => some (.vcmpgefp d a b rc)
  | 518 => some (.vcmpgtub d a b rc)
  | 582 => some (.vcmpgtuh d a b rc)
  | 646 => some (.vcmpgtuw d a b rc)
  | 710 => some (.vcmpgtfp d a b rc)
  | 774 => some (.vcmpgtsb d a b rc)
  | 838 => some (.vcmpgtsh d a b rc)
  | 902 => some (.vcmpgtsw d a b rc)
  | 966 => some (.vcmpbfp d a b rc)
  | _ => none

/-- The VA-form rows of primary opcode 4 (rule R99); `c` is bits 21-25, whose low four bits are SHB in `vsldoi`. -/
def decodeVA (xo : Nat) (d a b c : Reg) : Option Instr :=
  match xo with
  | 32 => some (.vmhaddshs d a b c)
  | 33 => some (.vmhraddshs d a b c)
  | 34 => some (.vmladduhm d a b c)
  | 36 => some (.vmsumubm d a b c)
  | 37 => some (.vmsummbm d a b c)
  | 38 => some (.vmsumuhm d a b c)
  | 39 => some (.vmsumuhs d a b c)
  | 40 => some (.vmsumshm d a b c)
  | 41 => some (.vmsumshs d a b c)
  | 42 => some (.vsel d a b c)
  | 43 => some (.vperm d a b c)
  | 46 => some (.vmaddfp d a b c)
  | 47 => some (.vnmsubfp d a b c)
  | 44 => some (.vsldoi d a b (c.setWidth 4))
  | _ => none

/-- Primary opcode 4, by the test of rule R86 on bits 26-31. -/
def decode4 (w : BitVec 32) : Option Instr :=
  let x6 := (insnField w 26 6).toNat
  let d := insnField w 6 5
  let a := insnField w 11 5
  let b := insnField w 16 5
  if 32 ≤ x6 then decodeVA x6 d a b (insnField w 21 5)
  else if x6 = 6 then decodeVXR (insnField w 22 10).toNat d a b ((insnField w 21 1) == 1#1)
  else decodeVX (insnField w 21 11).toNat d a b

/-- Primary opcode 31: the ordinary X-form rows, the stream rows, then the base rows; their extended opcodes differ. -/
def decode31 (w : BitVec 32) : Option Instr :=
  let xo := (insnField w 21 10).toNat
  let d := insnField w 6 5
  let a := insnField w 11 5
  let b := insnField w 16 5
  match decodeX xo d a b with
  | some i => some i
  | none =>
    match decodeStream xo d a b with
    | some i => some i
    | none => decodeBase31 xo d a b ((insnField w 31 1) == 1#1)

/-- The instruction of a word, if some row of the table matches it (rules R86, R101, R420). -/
def decodeOpt (w : BitVec 32) : Option Instr :=
  match (insnField w 0 6).toNat with
  | 4 => decode4 w
  | 14 => some (.addi (insnField w 6 5) (insnField w 11 5) (insnField w 16 16))
  | 15 => some (.addis (insnField w 6 5) (insnField w 11 5) (insnField w 16 16))
  | 16 => if insnField w 30 2 = 0 then some (.bc (insnField w 6 5) (insnField w 11 5) (insnField w 16 14)) else none
  | 18 => if insnField w 30 2 = 0 then some (.b (insnField w 6 24)) else none
  | 19 => if insnField w 21 10 = 50 then some .rfi else none
  | 24 => some (.ori (insnField w 11 5) (insnField w 6 5) (insnField w 16 16))
  | 31 => decode31 w
  | _ => none

/-- What the decoder says of some bytes. -/
inductive Decoded where
  /-- An instruction of the table. -/
  | ok (i : Instr)
  /-- No row of the table matches the word (rules R101, R430). -/
  | unallocated (w : BitVec 32)
  /-- Fewer than four bytes were given (rule R80: every instruction is 32 bits). -/
  | truncated
  deriving DecidableEq, Repr

/-- Decode a word. -/
def decode (w : BitVec 32) : Decoded :=
  match decodeOpt w with
  | some i => .ok i
  | none => .unallocated w

/-- Decode the instruction at the head of a list of bytes, most significant byte first (rules R52, R80); the rest of the
list comes back with it. -/
def decodeBytes : List Byte → Decoded × List Byte
  | b0 :: b1 :: b2 :: b3 :: rest => (decode (b0 ++ b1 ++ b2 ++ b3), rest)
  | bs => (.truncated, bs)

/-! ### The encoder, from the same tables -/

/-- X-form (rule R82): OPCD 31, three 5-bit fields, the 10-bit extended opcode in bits 21-30, bit 31 zero. -/
def wordX (xo : Nat) (d a b : Reg) : BitVec 32 := 31#6 ++ d ++ a ++ b ++ BitVec.ofNat 10 xo ++ 0#1

/-- XL-form: OPCD 19, the extended opcode in bits 21-30, every other field zero (rule R451). -/
def wordXL (xo : Nat) : BitVec 32 := 19#6 ++ 0#15 ++ BitVec.ofNat 10 xo ++ 0#1

/-- VX-form (rule R83): OPCD 4 and an 11-bit extended opcode. -/
def wordVX (xo : Nat) (d a b : Reg) : BitVec 32 := 4#6 ++ d ++ a ++ b ++ BitVec.ofNat 11 xo

/-- VXR-form (rule R85): OPCD 4, Rc in bit 21 and a 10-bit extended opcode. -/
def wordVXR (xo : Nat) (d a b : Reg) (rc : Bool) : BitVec 32 :=
  4#6 ++ d ++ a ++ b ++ BitVec.ofBool rc ++ BitVec.ofNat 10 xo

/-- VA-form (rule R84): OPCD 4, four 5-bit fields and a 6-bit extended opcode. -/
def wordVA (xo : Nat) (d a b c : Reg) : BitVec 32 := 4#6 ++ d ++ a ++ b ++ c ++ BitVec.ofNat 6 xo

/-- D-form of the base subset: two register fields and a 16-bit immediate (rules R421, R422, R427). -/
def wordD (op : Nat) (d a : Reg) (imm : BitVec 16) : BitVec 32 := BitVec.ofNat 6 op ++ d ++ a ++ imm

/-- B-form with AA = 0 and LK = 0 (rule R426). -/
def wordB (bo bi : BitVec 5) (bd : BitVec 14) : BitVec 32 := 16#6 ++ bo ++ bi ++ bd ++ 0#2

/-- I-form with AA = 0 and LK = 0 (rule R425). -/
def wordI (li : BitVec 24) : BitVec 32 := 18#6 ++ li ++ 0#2

/-- Bits 6-10 of a stream instruction: the T or A bit, two reserved zeros, STRM (rule R87). -/
def streamField (t : Bool) (strm : BitVec 2) : Reg := BitVec.ofBool t ++ 0#2 ++ strm

/-- The word of an instruction, with zeros in the reserved fields (rules R82 to R99, R420 to R429, R451). -/
def encode (i : Instr) : BitVec 32 :=
  match i with
  | .lvsl vd ra rb => wordX 6 vd ra rb
  | .lvebx vd ra rb => wordX 7 vd ra rb
  | .lvsr vd ra rb => wordX 38 vd ra rb
  | .lvehx vd ra rb => wordX 39 vd ra rb
  | .mviwsplt vd ra rb => wordX 46 vd ra rb
  | .lvewx vd ra rb => wordX 71 vd ra rb
  | .lvx vd ra rb => wordX 103 vd ra rb
  | .mvidsplt vd ra rb => wordX 110 vd ra rb
  | .stvebx vs ra rb => wordX 135 vs ra rb
  | .stvehx vs ra rb => wordX 167 vs ra rb
  | .stvewx vs ra rb => wordX 199 vs ra rb
  | .stvx vs ra rb => wordX 231 vs ra rb
  | .lvexbx vd ra rb => wordX 261 vd ra rb
  | .lvepxl vd ra rb => wordX 263 vd ra rb
  | .lvexhx vd ra rb => wordX 293 vd ra rb
  | .lvepx vd ra rb => wordX 295 vd ra rb
  | .lvexwx vd ra rb => wordX 325 vd ra rb
  | .lvxl vd ra rb => wordX 359 vd ra rb
  | .stvexbx vs ra rb => wordX 389 vs ra rb
  | .stvexhx vs ra rb => wordX 421 vs ra rb
  | .stvexwx vs ra rb => wordX 453 vs ra rb
  | .stvxl vs ra rb => wordX 487 vs ra rb
  | .lvtrx vd ra rb => wordX 549 vd ra rb
  | .lvtlx vd ra rb => wordX 581 vd ra rb
  | .lvswx vd ra rb => wordX 613 vd ra rb
  | .stvfrx vs ra rb => wordX 677 vs ra rb
  | .stvflx vs ra rb => wordX 709 vs ra rb
  | .stvswx vs ra rb => wordX 741 vs ra rb
  | .lvsm vd ra rb => wordX 773 vd ra rb
  | .stvepxl vs ra rb => wordX 775 vs ra rb
  | .lvtrxl vd ra rb => wordX 805 vd ra rb
  | .stvepx vs ra rb => wordX 807 vs ra rb
  | .lvtlxl vd ra rb => wordX 837 vd ra rb
  | .lvswxl vd ra rb => wordX 869 vd ra rb
  | .stvfrxl vs ra rb => wordX 933 vs ra rb
  | .stvflxl vs ra rb => wordX 965 vs ra rb
  | .stvswxl vs ra rb => wordX 997 vs ra rb
  | .dst strm ra rb => wordX 342 (streamField false strm) ra rb
  | .dstt strm ra rb => wordX 342 (streamField true strm) ra rb
  | .dstst strm ra rb => wordX 374 (streamField false strm) ra rb
  | .dststt strm ra rb => wordX 374 (streamField true strm) ra rb
  | .dss strm => wordX 822 (streamField false strm) 0 0
  | .dssall strm => wordX 822 (streamField true strm) 0 0
  | .vaddubm vd va vb => wordVX 0 vd va vb
  | .vmaxub vd va vb => wordVX 2 vd va vb
  | .vrlb vd va vb => wordVX 4 vd va vb
  | .vmuloub vd va vb => wordVX 8 vd va vb
  | .vaddfp vd va vb => wordVX 10 vd va vb
  | .vmrghb vd va vb => wordVX 12 vd va vb
  | .vpkuhum vd va vb => wordVX 14 vd va vb
  | .vadduhm vd va vb => wordVX 64 vd va vb
  | .vmaxuh vd va vb => wordVX 66 vd va vb
  | .vrlh vd va vb => wordVX 68 vd va vb
  | .vmulouh vd va vb => wordVX 72 vd va vb
  | .vsubfp vd va vb => wordVX 74 vd va vb
  | .vmrghh vd va vb => wordVX 76 vd va vb
  | .vpkuwum vd va vb => wordVX 78 vd va vb
  | .vadduwm vd va vb => wordVX 128 vd va vb
  | .vmaxuw vd va vb => wordVX 130 vd va vb
  | .vrlw vd va vb => wordVX 132 vd va vb
  | .vmrghw vd va vb => wordVX 140 vd va vb
  | .vpkuhus vd va vb => wordVX 142 vd va vb
  | .vpkuwus vd va vb => wordVX 206 vd va vb
  | .vmaxsb vd va vb => wordVX 258 vd va vb
  | .vslb vd va vb => wordVX 260 vd va vb
  | .vmulosb vd va vb => wordVX 264 vd va vb
  | .vmrglb vd va vb => wordVX 268 vd va vb
  | .vpkshus vd va vb => wordVX 270 vd va vb
  | .vmaxsh vd va vb => wordVX 322 vd va vb
  | .vslh vd va vb => wordVX 324 vd va vb
  | .vmulosh vd va vb => wordVX 328 vd va vb
  | .vmrglh vd va vb => wordVX 332 vd va vb
  | .vpkswus vd va vb => wordVX 334 vd va vb
  | .vaddcuw vd va vb => wordVX 384 vd va vb
  | .vmaxsw vd va vb => wordVX 386 vd va vb
  | .vslw vd va vb => wordVX 388 vd va vb
  | .vmrglw vd va vb => wordVX 396 vd va vb
  | .vpkshss vd va vb => wordVX 398 vd va vb
  | .vsl vd va vb => wordVX 452 vd va vb
  | .vpkswss vd va vb => wordVX 462 vd va vb
  | .vaddubs vd va vb => wordVX 512 vd va vb
  | .vminub vd va vb => wordVX 514 vd va vb
  | .vsrb vd va vb => wordVX 516 vd va vb
  | .vmuleub vd va vb => wordVX 520 vd va vb
  | .vadduhs vd va vb => wordVX 576 vd va vb
  | .vminuh vd va vb => wordVX 578 vd va vb
  | .vsrh vd va vb => wordVX 580 vd va vb
  | .vmuleuh vd va vb => wordVX 584 vd va vb
  | .vadduws vd va vb => wordVX 640 vd va vb
  | .vminuw vd va vb => wordVX 642 vd va vb
  | .vsrw vd va vb => wordVX 644 vd va vb
  | .vsr vd va vb => wordVX 708 vd va vb
  | .vaddsbs vd va vb => wordVX 768 vd va vb
  | .vminsb vd va vb => wordVX 770 vd va vb
  | .vsrab vd va vb => wordVX 772 vd va vb
  | .vmulesb vd va vb => wordVX 776 vd va vb
  | .vpkpx vd va vb => wordVX 782 vd va vb
  | .vaddshs vd va vb => wordVX 832 vd va vb
  | .vminsh vd va vb => wordVX 834 vd va vb
  | .vsrah vd va vb => wordVX 836 vd va vb
  | .vmulesh vd va vb => wordVX 840 vd va vb
  | .vaddsws vd va vb => wordVX 896 vd va vb
  | .vminsw vd va vb => wordVX 898 vd va vb
  | .vsraw vd va vb => wordVX 900 vd va vb
  | .vsububm vd va vb => wordVX 1024 vd va vb
  | .vavgub vd va vb => wordVX 1026 vd va vb
  | .vabsdub vd va vb => wordVX 1027 vd va vb
  | .vand vd va vb => wordVX 1028 vd va vb
  | .vmaxfp vd va vb => wordVX 1034 vd va vb
  | .vslo vd va vb => wordVX 1036 vd va vb
  | .vsubuhm vd va vb => wordVX 1088 vd va vb
  | .vavguh vd va vb => wordVX 1090 vd va vb
  | .vabsduh vd va vb => wordVX 1091 vd va vb
  | .vandc vd va vb => wordVX 1092 vd va vb
  | .vminfp vd va vb => wordVX 1098 vd va vb
  | .vsro vd va vb => wordVX 1100 vd va vb
  | .vsubuwm vd va vb => wordVX 1152 vd va vb
  | .vavguw vd va vb => wordVX 1154 vd va vb
  | .vabsduw vd va vb => wordVX 1155 vd va vb
  | .vor vd va vb => wordVX 1156 vd va vb
  | .vxor vd va vb => wordVX 1220 vd va vb
  | .vavgsb vd va vb => wordVX 1282 vd va vb
  | .vnor vd va vb => wordVX 1284 vd va vb
  | .vavgsh vd va vb => wordVX 1346 vd va vb
  | .vsubcuw vd va vb => wordVX 1408 vd va vb
  | .vavgsw vd va vb => wordVX 1410 vd va vb
  | .vsububs vd va vb => wordVX 1536 vd va vb
  | .vsum4ubs vd va vb => wordVX 1544 vd va vb
  | .vsubuhs vd va vb => wordVX 1600 vd va vb
  | .vsum4shs vd va vb => wordVX 1608 vd va vb
  | .vsubuws vd va vb => wordVX 1664 vd va vb
  | .vsum2sws vd va vb => wordVX 1672 vd va vb
  | .vsubsbs vd va vb => wordVX 1792 vd va vb
  | .vsum4sbs vd va vb => wordVX 1800 vd va vb
  | .vsubshs vd va vb => wordVX 1856 vd va vb
  | .vsubsws vd va vb => wordVX 1920 vd va vb
  | .vsumsws vd va vb => wordVX 1928 vd va vb
  | .vrefp vd vb => wordVX 266 vd 0 vb
  | .vrsqrtefp vd vb => wordVX 330 vd 0 vb
  | .vexptefp vd vb => wordVX 394 vd 0 vb
  | .vlogefp vd vb => wordVX 458 vd 0 vb
  | .vrfin vd vb => wordVX 522 vd 0 vb
  | .vrfiz vd vb => wordVX 586 vd 0 vb
  | .vrfip vd vb => wordVX 650 vd 0 vb
  | .vrfim vd vb => wordVX 714 vd 0 vb
  | .vupkhsb vd vb => wordVX 526 vd 0 vb
  | .vupkhsh vd vb => wordVX 590 vd 0 vb
  | .vupklsb vd vb => wordVX 654 vd 0 vb
  | .vupklsh vd vb => wordVX 718 vd 0 vb
  | .vupkhpx vd vb => wordVX 846 vd 0 vb
  | .vupklpx vd vb => wordVX 974 vd 0 vb
  | .vcfux vd vb uimm => wordVX 778 vd uimm vb
  | .vcfsx vd vb uimm => wordVX 842 vd uimm vb
  | .vctuxs vd vb uimm => wordVX 906 vd uimm vb
  | .vctsxs vd vb uimm => wordVX 970 vd uimm vb
  | .vspltb vd vb uimm => wordVX 524 vd (uimm.setWidth 5) vb
  | .vsplth vd vb uimm => wordVX 588 vd (uimm.setWidth 5) vb
  | .vspltw vd vb uimm => wordVX 652 vd (uimm.setWidth 5) vb
  | .vspltisb vd simm => wordVX 780 vd simm 0
  | .vspltish vd simm => wordVX 844 vd simm 0
  | .vspltisw vd simm => wordVX 908 vd simm 0
  | .mfvscr vd => wordVX 1540 vd 0 0
  | .mtvscr vb => wordVX 1604 0 0 vb
  | .vcmpequb vd va vb rc => wordVXR 6 vd va vb rc
  | .vcmpequh vd va vb rc => wordVXR 70 vd va vb rc
  | .vcmpequw vd va vb rc => wordVXR 134 vd va vb rc
  | .vcmpeqfp vd va vb rc => wordVXR 198 vd va vb rc
  | .vcmpgefp vd va vb rc => wordVXR 454 vd va vb rc
  | .vcmpgtub vd va vb rc => wordVXR 518 vd va vb rc
  | .vcmpgtuh vd va vb rc => wordVXR 582 vd va vb rc
  | .vcmpgtuw vd va vb rc => wordVXR 646 vd va vb rc
  | .vcmpgtfp vd va vb rc => wordVXR 710 vd va vb rc
  | .vcmpgtsb vd va vb rc => wordVXR 774 vd va vb rc
  | .vcmpgtsh vd va vb rc => wordVXR 838 vd va vb rc
  | .vcmpgtsw vd va vb rc => wordVXR 902 vd va vb rc
  | .vcmpbfp vd va vb rc => wordVXR 966 vd va vb rc
  | .vmhaddshs vd va vb vc => wordVA 32 vd va vb vc
  | .vmhraddshs vd va vb vc => wordVA 33 vd va vb vc
  | .vmladduhm vd va vb vc => wordVA 34 vd va vb vc
  | .vmsumubm vd va vb vc => wordVA 36 vd va vb vc
  | .vmsummbm vd va vb vc => wordVA 37 vd va vb vc
  | .vmsumuhm vd va vb vc => wordVA 38 vd va vb vc
  | .vmsumuhs vd va vb vc => wordVA 39 vd va vb vc
  | .vmsumshm vd va vb vc => wordVA 40 vd va vb vc
  | .vmsumshs vd va vb vc => wordVA 41 vd va vb vc
  | .vsel vd va vb vc => wordVA 42 vd va vb vc
  | .vperm vd va vb vc => wordVA 43 vd va vb vc
  | .vmaddfp vd va vb vc => wordVA 46 vd va vb vc
  | .vnmsubfp vd va vb vc => wordVA 47 vd va vb vc
  | .vsldoi vd va vb shb => wordVA 44 vd va vb (shb.setWidth 5)
  | .addi rd ra simm => wordD 14 rd ra simm
  | .addis rd ra simm => wordD 15 rd ra simm
  | .bc bo bi bd => wordB bo bi bd
  | .b li => wordI li
  | .ori ra rs uimm => wordD 24 rs ra uimm
  | .srawi ra rs sh => wordX 824 rs ra sh
  | .mfspr rd spr => wordX 339 rd (spr.setWidth 5) (spr.extractLsb' 5 5)
  | .mtspr spr rs => wordX 467 rs (spr.setWidth 5) (spr.extractLsb' 5 5)
  | .rfi => wordXL 50

/-- The four bytes of an instruction, in the order they stand in memory (rules R52, R80). -/
def encodeBytes (i : Instr) : List Byte :=
  let w := encode i
  [insnField w 0 8, insnField w 8 8, insnField w 16 8, insnField w 24 8]

/-- The four bytes of the word whose bits are `w` (bit 0 the least significant), as the hardware stores them. -/
def wordBytes (w : Nat) : List Byte :=
  let v := BitVec.ofNat 32 w
  [insnField v 0 8, insnField v 8 8, insnField v 16 8, insnField v 24 8]

/-- The instruction the decoder reads from a word of the opcode table: every instruction is one 32-bit word, so `nbits`
(32 in every row) adds nothing. -/
def decodeTableWord (nbits w : Nat) : Option Instr :=
  match decodeBytes (wordBytes (w % 2 ^ nbits)) with
  | (.ok i, _) => some i
  | _ => none

end Sys2Proof
end

