-- ==== Sys2Proof/Config.lean ====
section
/-! DEFINITION. What an implementation fixes (00_scope.md rule R7, 92_eei_decisions.md D1 to D14) and the values the
spec leaves open. The free values have no body: nothing proved in Lean can depend on which values they are. -/

namespace Sys2Proof

/-- When the AltiVec assist interrupt occurs for a denormalized operand, the parameter `AssistOnDenorm` (D6, rule R444). -/
inductive AssistPolicy where
  /-- Never: the implementation performs every operation itself. The spec's default. -/
  | never
  /-- For every denormalized source element. -/
  | everyDenormal
  /-- As the implementation decides, of the instruction, its source elements and NJ: `Config.assistOnDenorm`. -/
  | implementation
  deriving DecidableEq, Repr

/-- What becomes of a word that no instruction of the model has, the parameter `BaseStep` (D11, D25, rule R430). -/
inductive BasePolicy where
  /-- It is refused: `BaseStep` answers `none`. The spec's default. -/
  | refuse
  /-- It is handed to a base machine from outside the spec: `Config.baseStep`. -/
  | supplied
  deriving DecidableEq, Repr

/-- The implementation parameters of rule R7 that are choices. No instruction changes them; statements quantify over them. -/
structure Cfg where
  /-- `Impl64` (D1): a 64-bit implementation; XLEN is 64 if so, else 32 (D2). -/
  impl64 : Bool
  /-- `HasEPD` (D4): category E.PD, the external-PID loads and stores. -/
  hasEPD : Bool
  /-- `HasEHV` (D5): category E.HV, guest and hypervisor state. -/
  hasEHV : Bool
  /-- `AlignIntOnCIWT` (D7): the partial-vector accesses of rule R455 interrupt on such memory. -/
  alignIntOnCIWT : Bool
  /-- `AssistOnDenorm` (D6): when the AltiVec assist interrupt occurs (rule R444). -/
  assist : AssistPolicy
  /-- `BaseStep` (D11): what becomes of a word outside the nine base rows and the AltiVec rows (rule R430). -/
  baseStep : BasePolicy
  deriving DecidableEq, Repr

namespace Config

/-- `UndefVec` (D9, rule R15): the `n`-th undefined 128-bit value of a run. -/
opaque freeVec : Nat → Vec

/-- The `n`-th free choice between two outcomes the spec allows (rules R67 and R456). -/
opaque freeChoice : Nat → Bool

/-- `EstRecip`, `EstRsqrt`, `EstLog2`, `EstExp2` (D8): the `n`-th candidate for the result element of an estimate
instruction; the meaning uses it where the spec's error bound admits it. -/
opaque freeEstimate : Nat → Word

/-- `ReservedReadback` (D10, rule R28): what the reserved VSCR bits read as after a 1 was written to them. -/
opaque freeReserved : Nat → Word

/-- `AssistOnDenorm` (D6, rule R444): of an instruction, the source elements it reads, and VSCR.NJ. It counts only
where a source element is denormalized and the policy leaves the choice to the implementation. -/
opaque assistOnDenorm : Instr → List Word → Bool → Bool

end Config

end Sys2Proof
end

