-- ==== Sys2Proof/Machine/State.lean ====
section
/-! DEFINITION. The state of the machine as plain data (10_state.md, 49_base_isa_subset.md rule R420, 60_exceptions.md
rules R450 to R462), the reasons a step can stop, and the machine right after reset (10_state.md rule R48, 70_reset_and_hazards.md
rule R470). -/

namespace Sys2Proof.Machine

open Sys2Proof

/-- Load or store, the `kind` of a translated access (20_memory.md rule R66). -/
inductive AccessKind where
  /-- The access reads memory. -/
  | load
  /-- The access writes memory. -/
  | store
  deriving DecidableEq, Repr

/-- The translation context of an access (10_state.md rule R40): for a normal access MSR[PR], MSR[DS], PID, MSR[GS] and
LPIDR, for an external-PID access the fields EPR, EAS, EPID, EGS and ELPID of EPLC or EPSC in their place. -/
structure AccessCtx where
  /-- MSR[PR] or EPR. -/
  pr : Bool
  /-- MSR[DS] or EAS. -/
  ds : Bool
  /-- PID or EPID. -/
  pid : Word
  /-- MSR[GS] or EGS (category E.HV). -/
  gs : Bool
  /-- LPIDR or ELPID (category E.HV). -/
  lpid : Word
  deriving DecidableEq, Repr

/-- The two interrupts a translation can end in (rule R66). -/
inductive StorageFault where
  /-- The access is not permitted. -/
  | dataStorage
  /-- No translation exists. -/
  | dataTLBError
  deriving DecidableEq, Repr

/-- The storage attributes of an address, the parameter `MemAttr` (rules R7, R65, D13). -/
structure MemAttr where
  /-- The address is caching-inhibited (rule R65). -/
  cachingInhibited : Bool
  /-- The address is write-through required (rule R65). -/
  writeThrough : Bool
  /-- The page is little-endian; every access of this machine ignores it (rule R53). -/
  littleEndian : Bool
  deriving DecidableEq, Repr

/-- No attribute, the spec's default (rule R7). -/
def MemAttr.plain : MemAttr := { cachingInhibited := false, writeThrough := false, littleEndian := false }

/-- What a translation answers (rules R65 and R66). -/
inductive XlatResult where
  /-- The real address and its attributes. -/
  | ok (real : DWord) (attr : MemAttr)
  /-- An interrupt, directed to the guest or not (rule R462). -/
  | fault (f : StorageFault) (toGuest : Bool)
  deriving DecidableEq, Repr

/-- One entry of the platform's translation: effective addresses `base` to `base + size - 1`, for one kind of access or
both, in one context or all. -/
structure XlatEntry where
  base : DWord
  size : Nat
  kind : Option AccessKind
  ctx : Option AccessCtx
  result : XlatResult
  deriving DecidableEq, Repr

/-- The machine's state. -/
structure State where
  /-- VR0 to VR31 (rule R20). -/
  vrs : Vector Vec 32
  /-- VSCR; NJ has mask 0x00010000 and SAT mask 0x00000001 (rules R22, R23). -/
  vscr : Word
  /-- VRSAVE, SPR 256 (rule R30). -/
  vrsave : Word
  /-- The condition register; CR6 is bits 24 to 27, mask 0x000000F0 (rule R33). -/
  cr : Word
  /-- GPR0 to GPR31 (rule R38); on a 32-bit implementation the upper halves are zero. -/
  gprs : Vector DWord 32
  /-- CTR, SPR 9 (rule R424). -/
  ctr : DWord
  /-- LR, SPR 8 (rule R424). -/
  lr : DWord
  /-- XER[CA], written by `srawi` (rule R423). -/
  xerCA : Bool
  /-- The address of the current instruction, CIA (rule R41). -/
  pc : DWord
  /-- The machine state register (rules R35, R451). -/
  msr : DWord
  /-- SRR0, SPR 26: the saved address (rule R450). -/
  srr0 : DWord
  /-- SRR1, SPR 27: the saved MSR (rule R450). -/
  srr1 : DWord
  /-- GSRR0, in place of SRR0 for an interrupt directed to the guest (rule R462). -/
  gsrr0 : DWord
  /-- GSRR1, in place of SRR1 for an interrupt directed to the guest (rule R462). -/
  gsrr1 : DWord
  /-- The exception syndrome register (rules R36, R453). -/
  esr : Word
  /-- The guest exception syndrome register (rules R36, R462). -/
  gesr : Word
  /-- DEAR, the address of the access that interrupted (rule R450). -/
  dear : DWord
  /-- `IVPR_base`, the bits of a handler's address above the low 16 (rules R32, R450). -/
  ivpr : BitVec 48
  /-- IVOR2[48:63], data storage (rule R450). -/
  ivor2 : Half
  /-- IVOR5[48:63], alignment (rule R450). -/
  ivor5 : Half
  /-- IVOR6[48:63], program (rule R450). -/
  ivor6 : Half
  /-- IVOR13[48:63], data TLB error (rule R450). -/
  ivor13 : Half
  /-- IVOR32[48:63], AltiVec unavailable (rule R32). -/
  ivor32 : Half
  /-- IVOR33[48:63], AltiVec assist (rule R32). -/
  ivor33 : Half
  /-- EPLC, the external-PID load context (rule R40). -/
  eplc : AccessCtx
  /-- EPSC, the external-PID store context (rule R40). -/
  epsc : AccessCtx
  /-- PID (rules R39, R40). -/
  pid : Word
  /-- LPIDR (rules R39, R40; category E.HV). -/
  lpidr : Word
  /-- `Mode64`: 64-bit computation mode (rule R7, D3); no instruction changes it. -/
  mode64 : Bool
  /-- The implementation parameters of rule R7; no instruction changes them. -/
  cfg : Cfg
  /-- `Translate` and `MemAttr` (rules R65, R66, D12, D13): the first entry that matches an access answers it, and with
  none the address is its own translation with no attribute. It answers instruction fetches too (rule R42). No
  instruction changes it. -/
  xlat : List XlatEntry
  /-- Memory (rules R42, R50, R75) in canonical form: addresses strictly rising, no byte equal to what an unlisted
  address reads as. -/
  mem : List Host.Cell
  /-- The model's own counter of the free values drawn so far; no register of the machine. -/
  freeCtr : Nat
  deriving DecidableEq, Repr

/-- The reasons the machine stops. -/
inductive Fault where
  /-- Raised by `step` where the pc is no multiple of 4: rule R41 says it always is one, and the spec gives such a fetch no
  effect. Safe: the model stops where nothing is said of the hardware. -/
  | pcNotWordAligned (pc : DWord)
  deriving DecidableEq, Repr

/-- The reasons an instruction has no next state. -/
inductive Refusal where
  /-- Raised by an arm of `exec` whose instruction has no meaning yet. Safe. -/
  | notModelled (mnemonic : String)
  /-- Raised by `step` for a word that matches no row of the opcode table, where no base machine takes it: the source does
  not give its handling (rules R101, R430, R457, D25). Safe. -/
  | unallocated (w : Word)
  /-- Raised by an instruction of a category the implementation lacks, where no base machine takes it: such a word is then
  unallocated (rule R102, D25). Safe. -/
  | categoryAbsent (mnemonic : String)
  /-- Raised by `mfspr` and `mtspr` of an SPR number that no rule gives, where no base machine takes it (rules R428, R429,
  R430). Safe. -/
  | sprNotListed (spr : BitVec 10)
  /-- Raised by `step` where the translation of the pc faults: instruction fetch faults are outside the spec, which gives
  them no interrupt vector (rule R443). Safe. -/
  | fetchFault (f : StorageFault)
  deriving DecidableEq, Repr

/-- A step's answer. -/
abbrev Result := Host.Outcome State Fault Refusal

/-- The parameters a machine starts with: the defaults of rule R7, but with category E.PD, so that its four
instructions run. -/
def Cfg.initial : Cfg :=
  { impl64 := true, hasEPD := true, hasEHV := false, alignIntOnCIWT := false, assist := .never,
    baseStep := .refuse }

/-- An all-zero external context. -/
def AccessCtx.zero : AccessCtx := { pr := false, ds := false, pid := 0, gs := false, lpid := 0 }

/-- The machine right after reset: VRSAVE is 0 (rule R30), VSCR is 0 (D20), MSR[SPV] and MSR[PR] are 0 (D18). The spec
gives no other register a reset value; they are 0 by choice. Memory lists nothing. -/
def State.reset : State :=
  { vrs := Vector.replicate 32 0, vscr := 0, vrsave := 0, cr := 0, gprs := Vector.replicate 32 0, ctr := 0, lr := 0,
    xerCA := false, pc := 0, msr := 0, srr0 := 0, srr1 := 0, gsrr0 := 0, gsrr1 := 0, esr := 0, gesr := 0, dear := 0,
    ivpr := 0, ivor2 := 0, ivor5 := 0, ivor6 := 0, ivor13 := 0, ivor32 := 0, ivor33 := 0,
    eplc := AccessCtx.zero, epsc := AccessCtx.zero, pid := 0, lpidr := 0, mode64 := true, cfg := Cfg.initial,
    xlat := [], mem := [], freeCtr := 0 }

end Sys2Proof.Machine

namespace Sys2Proof

/-- `BaseStep : MachineState × Word32 → Option MachineState` of rule R430, the base machine that an implementation may
supply: free. It counts only where the configuration says so. -/
opaque Config.baseStep : Machine.State → Word → Option Machine.State

end Sys2Proof
end

