-- ==== Sys2Proof/Machine/Operands.lean ====
section
/-! DEFINITION. Operands: elements of a vector (00_scope.md rules R8, R9, R11), the registers and fields an instruction reads
and writes, and the effective address (20_memory.md rule R55). -/

namespace Sys2Proof.Machine

open Sys2Proof

/-! ### Elements of a vector -/

/-- Element `i` of width `n`, element 0 the most significant (rule R9). -/
def elem (n : Nat) (v : Vec) (i : Nat) : BitVec n := v.extractLsb' (128 - n * (i + 1)) n

/-- `v.b[i]` (rule R9). -/
abbrev byte (v : Vec) (i : Nat) : Byte := elem 8 v i

/-- `v.h[i]` (rule R9). -/
abbrev half (v : Vec) (i : Nat) : Half := elem 16 v i

/-- `v.w[i]` (rule R9). -/
abbrev word (v : Vec) (i : Nat) : Word := elem 32 v i

/-- The vector whose first `k` elements of width `n` are `f 0 … f (k - 1)`, right-justified. -/
def build (n : Nat) : Nat → (Nat → BitVec n) → Vec
  | 0, _ => 0
  | k + 1, f => (build n k f <<< n) ||| (f k).setWidth 128

/-- The vector with byte elements `f 0 … f 15`. -/
abbrev ofBytes (f : Nat → Byte) : Vec := build 8 16 f

/-- The vector with half-word elements `f 0 … f 7`. -/
abbrev ofHalves (f : Nat → Half) : Vec := build 16 8 f

/-- The vector with word elements `f 0 … f 3`. -/
abbrev ofWords (f : Nat → Word) : Vec := build 32 4 f

/-- `v.b[i] <- x` (rule R11). -/
def setByte (v : Vec) (i : Nat) (x : Byte) : Vec := ofBytes fun j => if j = i then x else byte v j

/-- `v.h[i] <- x` (rule R11). -/
def setHalf (v : Vec) (i : Nat) (x : Half) : Vec := ofHalves fun j => if j = i then x else half v j

/-- `v.w[i] <- x` (rule R11). -/
def setWord (v : Vec) (i : Nat) (x : Word) : Vec := ofWords fun j => if j = i then x else word v j

/-- `VR[vD].e[i] <- f(VR[vA].e[i], VR[vB].e[i])` for byte elements. -/
def mapBytes (f : Byte → Byte → Byte) (a b : Vec) : Vec := ofBytes fun i => f (byte a i) (byte b i)

/-- The same for half-word elements. -/
def mapHalves (f : Half → Half → Half) (a b : Vec) : Vec := ofHalves fun i => f (half a i) (half b i)

/-- The same for word elements. -/
def mapWords (f : Word → Word → Word) (a b : Vec) : Vec := ofWords fun i => f (word a i) (word b i)

/-! ### Registers -/

/-- `VR[r]` (rules R20, R21). -/
def State.vr (s : State) (r : Reg) : Vec := s.vrs[r.toNat]'r.isLt

/-- `VR[r] <- v`. -/
def State.setVr (s : State) (r : Reg) (v : Vec) : State := { s with vrs := s.vrs.set r.toNat v r.isLt }

/-- A value cut to XLEN bits (rule R7, D2). -/
def Cfg.toXlen (c : Cfg) (v : DWord) : DWord := if c.impl64 then v else (v.setWidth 32).setWidth 64

/-- `GPR[r]` (rule R38). -/
def State.gpr (s : State) (r : Reg) : DWord := s.gprs[r.toNat]'r.isLt

/-- `GPR[r] <- v`, XLEN bits of it. -/
def State.setGpr (s : State) (r : Reg) (v : DWord) : State :=
  { s with gprs := s.gprs.set r.toNat (Cfg.toXlen s.cfg v) r.isLt }

/-- `(rA|0)`: zero where the field is 0, else the register (rules R38, R55). -/
def State.gprOrZero (s : State) (r : Reg) : DWord := if r = 0 then 0 else s.gpr r

/-- Is the machine in 64-bit computation mode (rule R7, D3)? -/
def State.is64 (s : State) : Bool := s.cfg.impl64 && s.mode64

/-- An address as the computation mode cuts it (rules R41, R44, R55). -/
def State.modeAddr (s : State) (a : DWord) : DWord := if s.is64 then a else (a.setWidth 32).setWidth 64

/-- `pc <- a`. -/
def State.setPc (s : State) (a : DWord) : State := { s with pc := s.modeAddr a }

/-- `pc <- pc + 4` (rule R44). -/
def State.advance (s : State) : State := s.setPc (s.pc + 4)

/-- `EA(rA, rB)` (rule R55). -/
def State.ea (s : State) (ra rb : Reg) : DWord := s.modeAddr (s.gprOrZero ra + s.gpr rb)

/-- The four low-order bits of an address, `ea[60:63]`. -/
def low4 (a : DWord) : Nat := (a.setWidth 4).toNat

/-- `a & ~(2^k - 1)`: forced alignment (rule R56). -/
def alignDown (k : Nat) (a : DWord) : DWord := (a >>> k) <<< k

/-! ### Fields of the status registers -/

/-- `MSR.SPV` (rules R35, R451). -/
def State.spv (s : State) : Bool := s.msr.getLsbD 25

/-- `MSR.PR`, 1 in user state (rules R451, R460). -/
def State.prBit (s : State) : Bool := s.msr.getLsbD 14

/-- `MSR.DS`, the data address space; its position is the family's. -/
def State.dsBit (s : State) : Bool := s.msr.getLsbD 4

/-- `MSR.GS`, guest state (category E.HV, rule R462); its position is the family's. -/
def State.gsBit (s : State) : Bool := s.cfg.hasEHV && s.msr.getLsbD 28

/-- `VSCR.NJ` (rule R22). -/
def State.nj (s : State) : Bool := s.vscr.getLsbD 16

/-- `VSCR.SAT` (rule R22). -/
def State.sat (s : State) : Bool := s.vscr.getLsbD 0

/-- `CR[i]` in the 32-bit numbering of rule R426. -/
def State.crBit (s : State) (i : BitVec 5) : Bool := s.cr.getMsbD i.toNat

end Sys2Proof.Machine
end

