-- ==== Sys2Proof/Machine/Flags.lean ====
section
/-! DEFINITION. The status an instruction leaves: saturation and VSCR[SAT] (10_state.md rules R25 to R27, 00_scope.md rule R11),
the record of a compare in CR6 (rule R34), and XER[CA] of `srawi` (rule R423). -/

namespace Sys2Proof.Machine

open Sys2Proof

/-- `sat_u(N, k)`: the clamped value and whether it was clamped (rules R11, R27). -/
def satU (n : Nat) (k : Int) : BitVec n × Bool :=
  if k < 0 then (0, true) else if 2 ^ n - 1 < k then (BitVec.allOnes n, true) else (BitVec.ofInt n k, false)

/-- `sat_s(N, k)` (rules R11, R27). -/
def satS (n : Nat) (k : Int) : BitVec n × Bool :=
  if k < -2 ^ (n - 1) then (BitVec.ofInt n (-2 ^ (n - 1)), true)
  else if 2 ^ (n - 1) - 1 < k then (BitVec.ofInt n (2 ^ (n - 1) - 1), true)
  else (BitVec.ofInt n k, false)

/-- Does some of the first `k` elements saturate? -/
def anySat : Nat → (Nat → Bool) → Bool
  | 0, _ => false
  | k + 1, f => anySat k f || f k

/-- A vector of `k` elements with the OR of their saturation flags (rule R25). -/
def buildSat (n k : Nat) (f : Nat → BitVec n × Bool) : Vec × Bool :=
  (build n k fun i => (f i).1, anySat k fun i => (f i).2)

/-- `VSCR.SAT <- VSCR.SAT | s`: the bit is sticky (rule R25). -/
def State.orSat (s : State) (sat : Bool) : State := { s with vscr := s.vscr ||| (BitVec.ofBool sat).setWidth 32 }

/-- CR6 is bits 24 to 27 of the CR; the other fields stay (rules R33, R34). -/
def State.setCr6 (s : State) (f : BitVec 4) : State :=
  { s with cr := (s.cr &&& ~~~0xF0#32) ||| (f.setWidth 32 <<< 4) }

/-- What a compare records: `t || 0 || f || 0` with t all ones and f all zeros (rule R34). -/
def cr6OfCompare (d : Vec) : BitVec 4 :=
  BitVec.ofBool (d == BitVec.allOnes 128) ++ 0#1 ++ BitVec.ofBool (d == 0) ++ 0#1

/-- What `vcmpbfp.` records: `0 || 0 || f || 0` (rule R34). -/
def cr6OfBounds (d : Vec) : BitVec 4 := 0#2 ++ BitVec.ofBool (d == 0) ++ 0#1

/-- `XER.CA` of an algebraic shift right: the source is negative and a 1 was shifted out (rule R423). -/
def shiftCarry (w : Word) (sh : Nat) : Bool := w.getLsbD 31 && (w.toNat % 2 ^ sh != 0)

end Sys2Proof.Machine
end

