-- ==== Sys2Proof/Machine/Ops.lean ====
section
/-! DEFINITION. The shared operations: memory (20_memory.md), translation (rules R65, R66), taking an interrupt and
returning from one (60_exceptions.md rules R450 to R462), the free values, and the steps that the instruction rules have in common. -/

namespace Sys2Proof.Machine

open Sys2Proof

/-! ### Memory -/

/-- What a byte of memory that nothing has written reads as. -/
def memDefault : Byte := 0

/-- The byte at an address. -/
def memRead : List Host.Cell → Nat → Byte
  | [], _ => memDefault
  | (a, b) :: m, k => if k = a then b else memRead m k

/-- Memory with one byte written; the canonical form is kept. -/
def memWrite : List Host.Cell → Nat → Byte → List Host.Cell
  | [], k, v => if v = memDefault then [] else [(k, v)]
  | (a, b) :: m, k, v =>
    if k < a then (if v = memDefault then (a, b) :: m else (k, v) :: (a, b) :: m)
    else if k = a then (if v = memDefault then m else (k, v) :: m)
    else (a, b) :: memWrite m k v

/-- The canonical form: addresses of 64 bits strictly rising, and no entry equal to what an unlisted address reads as. -/
abbrev Memory.wf (m : List Host.Cell) : Prop :=
  m.Pairwise (fun x y => x.1 < y.1) ∧ ∀ c ∈ m, c.1 < 2 ^ 64 ∧ c.2 ≠ memDefault

/-- `Mem[a]` (rule R52). -/
def State.readByte (s : State) (a : DWord) : Byte := memRead s.mem a.toNat

/-- `Mem[a] <- v` (rule R52). -/
def State.writeByte (s : State) (a : DWord) (v : Byte) : State := { s with mem := memWrite s.mem a.toNat v }

/-- `Mem[a + k] <- f k` for k = 0 … n - 1 (rule R52). -/
def State.writeBytes (s : State) (a : DWord) : Nat → (Nat → Byte) → State
  | 0, _ => s
  | n + 1, f => (s.writeBytes a n f).writeByte (a + BitVec.ofNat 64 n) (f n)

/-- `Mem[a + k]`. -/
def State.byteAt (s : State) (a : DWord) (k : Nat) : Byte := s.readByte (a + BitVec.ofNat 64 k)

/-- `MemRead(a, 2)`, big-endian (rule R52). -/
def State.readHalf (s : State) (a : DWord) : Half := s.byteAt a 0 ++ s.byteAt a 1

/-- `MemRead(a, 4)`, big-endian (rule R52). -/
def State.readWord (s : State) (a : DWord) : Word := s.byteAt a 0 ++ s.byteAt a 1 ++ s.byteAt a 2 ++ s.byteAt a 3

/-- `MemRead(a, 16)`: the byte at `a + i` is element `i` (rule R52). -/
def State.readQuad (s : State) (a : DWord) : Vec := ofBytes (s.byteAt a)

/-! ### Free values -/

/-- The undefined value `UndefVec()` of this execution (rule R15). -/
def State.undefVec (s : State) : Vec := Config.freeVec s.freeCtr

/-- `n` free values have been drawn. -/
def State.drawn (s : State) (n : Nat) : State := { s with freeCtr := s.freeCtr + n }

/-! ### Taking an interrupt and returning from one -/

/-- The interrupts an instruction can cause (rule R440). -/
inductive Interrupt where
  /-- MSR[SPV] is 0 (rule R441). -/
  | altivecUnavailable
  /-- A denormalized operand is left to software (rule R444). -/
  | altivecAssist
  /-- The access is not permitted (rule R452). -/
  | dataStorage
  /-- No translation for the address (rule R452). -/
  | dataTLBError
  /-- A partial-vector access to caching-inhibited or write-through memory (rule R455). -/
  | alignment
  /-- A privileged instruction in user state (rule R461). -/
  | program
  deriving DecidableEq, Repr

/-- The IVOR of an interrupt (rule R450). -/
def State.ivor (s : State) (k : Interrupt) : Half :=
  match k with
  | .altivecUnavailable => s.ivor32
  | .altivecAssist => s.ivor33
  | .dataStorage => s.ivor2
  | .dataTLBError => s.ivor13
  | .alignment => s.ivor5
  | .program => s.ivor6

/-- MSR[SPV] and MSR[PR], the bits that interrupt entry clears (rule R450, D31). -/
def msrEntryMask : DWord := 0x02004000

/-- Interrupt entry, `raise K(info)` of rule R450: the address of the instruction and the whole MSR are saved, in
GSRR0 and GSRR1 where the interrupt is directed to the guest (rule R462); a syndrome and an access address are recorded
where one is given; MSR[SPV] and MSR[PR] become 0; execution goes on at IVPR_base || IVOR. -/
def State.takeInterrupt (s : State) (k : Interrupt) (syndrome : Option Word) (addr : Option DWord) (toGuest : Bool) :
    State :=
  let saved : State :=
    { s with
      srr0 := if toGuest then s.srr0 else s.pc
      srr1 := if toGuest then s.srr1 else s.msr
      gsrr0 := if toGuest then s.pc else s.gsrr0
      gsrr1 := if toGuest then s.msr else s.gsrr1
      esr := if toGuest then s.esr else syndrome.getD s.esr
      gesr := if toGuest then syndrome.getD s.gesr else s.gesr
      dear := addr.getD s.dear
      msr := s.msr &&& ~~~msrEntryMask }
  saved.setPc (s.ivpr ++ s.ivor k)

/-- Return from interrupt, the effect of `rfi` in supervisor state (rule R451). -/
def State.returnFromInterrupt (s : State) : State := { s with msr := s.srr1 }.setPc (s.srr0 &&& ~~~3#64)

/-- The syndrome of a storage or alignment interrupt caused by an AltiVec instruction (rules R36, R453): SPV, with ST for a
store and EPID for an external-PID form. -/
def syndrome (isStore isExternal : Bool) : Word :=
  0x00000080 ||| (if isStore then 0x00800000 else 0) ||| (if isExternal then 0x00000040 else 0)

/-- ESR[PPR], the syndrome of a privileged-instruction program interrupt (rule R461); its position is the family's. -/
def esrPpr : Word := 0x04000000

/-- `raise AltiVecUnavailable` (rule R441). -/
def State.unavailable (s : State) : State := s.takeInterrupt .altivecUnavailable none none false

/-- `raise Program(privileged)` (rule R461). -/
def State.privileged (s : State) : State := s.takeInterrupt .program (some esrPpr) none false

/-- `raise DataStorage` or `raise DataTLBError` for an access to `ea` (rules R450, R452, R453). -/
def State.storageInterrupt (s : State) (f : StorageFault) (toGuest : Bool) (ea : DWord) (isStore isExternal : Bool) :
    State :=
  let k := match f with
    | .dataStorage => Interrupt.dataStorage
    | .dataTLBError => Interrupt.dataTLBError
  s.takeInterrupt k (some (syndrome isStore isExternal)) (some ea) toGuest

/-! ### The tests that begin an instruction (rule R443) -/

/-- `RequireSPV()` (rule R441). -/
def requireSpv (s : State) (r : Result) : Result := if s.spv then r else .next s.unavailable

/-- `if MSR.PR = 1 then raise Program(privileged)` (rule R461). -/
def requireSupervisor (s : State) (r : Result) : Result := if s.prBit then .next s.privileged else r

/-- A denormalized number: biased exponent 0, fraction not 0 (rule R242). -/
def isDenormal (x : Word) : Bool := (x.extractLsb' 23 8 == 0) && (x.extractLsb' 0 23 != 0)

/-- `AssistOnDenorm` under the implementation's policy (D6, rule R444). -/
def Cfg.wantsAssist (c : Cfg) (i : Instr) (src : List Word) (nj : Bool) : Bool :=
  match c.assist with
  | .never => false
  | .everyDenormal => true
  | .implementation => Config.assistOnDenorm i src nj

/-- The AltiVec assist test of a floating-point instruction that reads the elements `src` (rule R444). -/
def orAssist (i : Instr) (src : List Word) (s : State) (r : Result) : Result :=
  if src.any isDenormal && Cfg.wantsAssist s.cfg i src s.nj then
    .next (s.takeInterrupt .altivecAssist none none false)
  else r

/-! ### Memory accesses -/

/-- The context of a normal access (rule R40). -/
def State.normalCtx (s : State) : AccessCtx :=
  { pr := s.prBit, ds := s.dsBit, pid := s.pid, gs := s.gsBit, lpid := if s.cfg.hasEHV then s.lpidr else 0 }

/-- The context of an external-PID access: the fields of EPLC or EPSC take the place of the normal context's, the guest's
two only with category E.HV (rules R40, R302). -/
def State.externalCtx (s : State) (c : AccessCtx) : AccessCtx :=
  { c with gs := s.cfg.hasEHV && c.gs, lpid := if s.cfg.hasEHV then c.lpid else 0 }

/-- Does a translation entry answer this access? -/
def XlatEntry.covers (e : XlatEntry) (ea : DWord) (kind : AccessKind) (ctx : AccessCtx) : Bool :=
  decide (e.base.toNat ≤ ea.toNat) && decide (ea.toNat < e.base.toNat + e.size)
    && (e.kind == none || e.kind == some kind) && (e.ctx == none || e.ctx == some ctx)

/-- `Translate(ea, n, kind, context)` (rule R66). The length does not matter: no access leaves its quad word (rule
R59). An interrupt is directed to the guest only with category E.HV (rule R462). -/
def State.translate (s : State) (ea : DWord) (kind : AccessKind) (ctx : AccessCtx) : XlatResult :=
  match s.xlat.find? (fun e => e.covers ea kind ctx) with
  | none => .ok ea MemAttr.plain
  | some e =>
    match e.result with
    | .ok real attr => .ok (real + (ea - e.base)) attr
    | .fault f toGuest => .fault f (s.cfg.hasEHV && toGuest)

/-- `MemAttr(ea)`: is the address caching-inhibited or write-through required (rule R65)? -/
def State.ciOrWt (s : State) (ea : DWord) (kind : AccessKind) : Bool :=
  match s.translate ea kind s.normalCtx with
  | .ok _ attr => attr.cachingInhibited || attr.writeThrough
  | .fault _ _ => false

/-- One translated access: go on with the real address, or raise the storage interrupt from the state `onFault`
(rules R66, R67, R452). -/
def access (s : State) (ea : DWord) (kind : AccessKind) (ctx : AccessCtx) (isExternal : Bool) (onFault : State)
    (go : DWord → Result) : Result :=
  match s.translate ea kind ctx with
  | .ok real _ => go real
  | .fault f toGuest => .next (onFault.storageInterrupt f toGuest ea (kind == .store) isExternal)

/-- The test of rule R455 for the eight left and right forms. -/
def orAlignment (s : State) (ea : DWord) (kind : AccessKind) (r : Result) : Result :=
  if s.cfg.alignIntOnCIWT && s.ciOrWt ea kind then
    .next (s.takeInterrupt .alignment (some (syndrome (kind == .store) false)) (some ea) false)
  else r

/-- The state a whole-vector load leaves to the interrupt when its access faults: `VR[vD]` keeps its value or becomes
undefined, and which is left open (rules R67, R456). -/
def State.partialLoad (s : State) (vd : Reg) : State :=
  let t := s.drawn 1
  if Config.freeChoice s.freeCtr then t.setVr vd s.undefVec else t

/-! ### Fetching an instruction -/

/-- The translation of the pc: the effective-address space of a fetch is that of the data, so it is the answer for a load
in the normal context (rules R11, R42, R66, R80). -/
def State.fetchXlat (s : State) : XlatResult := s.translate s.pc .load s.normalCtx

/-- `MemRead(pc, 4)`: go on with the word at the translated pc (rules R11, R52, R80); it sees every earlier store (rule
R73). A pc that is no multiple of 4 is a fault (rule R41), and an instruction fetch fault is refused (rule R443). -/
def fetch (s : State) (go : Word → Result) : Result :=
  if s.pc.setWidth 2 = 0#2 then
    match s.fetchXlat with
    | .ok real _ => go (s.readWord real)
    | .fault f _ => .refused (.fetchFault f)
  else .fault (.pcNotWordAligned s.pc)

/-- Store the bytes of an instruction where the pc is fetched from. -/
def placeWord (s : State) (bs : List Byte) : State :=
  match s.fetchXlat with
  | .ok real _ => s.writeBytes real bs.length fun k => bs.getD k 0
  | .fault _ _ => s

/-! ### Words outside the model -/

/-- `BaseStep(s, word fetched at the pc)` (rules R7, R430): the next state that a supplied base machine gives, if any. -/
def State.baseMachine (s : State) : Option State :=
  match s.cfg.baseStep with
  | .refuse => none
  | .supplied =>
    match s.fetchXlat with
    | .ok real _ => Config.baseStep s (s.readWord real)
    | .fault _ _ => none

/-- A word that is no instruction of the model, or none of this implementation: the base machine's next state, or a
refusal (rule R430, D25). -/
def orBase (s : State) (r : Refusal) : Result :=
  match s.baseMachine with
  | some t => .next t
  | none => .refused r

/-! ### What the instruction rules have in common -/

/-- `VR[vD] <- v; pc <- pc + 4`. -/
def complete (s : State) (vd : Reg) (v : Vec) : Result := .next (s.setVr vd v).advance

/-- The same with `VSCR.SAT <- VSCR.SAT | s` (rule R25). -/
def completeSat (s : State) (vd : Reg) (r : Vec × Bool) : Result := .next ((s.setVr vd r.1).orSat r.2).advance

/-- An AltiVec instruction whose result is a function of VR[vB]. -/
def vec1 (f : Vec → Vec) (vd vb : Reg) (s : State) : Result := requireSpv s (complete s vd (f (s.vr vb)))

/-- An AltiVec instruction whose result is a function of VR[vA] and VR[vB]. -/
def vec2 (f : Vec → Vec → Vec) (vd va vb : Reg) (s : State) : Result :=
  requireSpv s (complete s vd (f (s.vr va) (s.vr vb)))

/-- An AltiVec instruction whose result is a function of VR[vA], VR[vB] and VR[vC]. -/
def vec3 (f : Vec → Vec → Vec → Vec) (vd va vb vc : Reg) (s : State) : Result :=
  requireSpv s (complete s vd (f (s.vr va) (s.vr vb) (s.vr vc)))

/-- A saturating AltiVec instruction of two sources. -/
def vec2Sat (f : Vec → Vec → Vec × Bool) (vd va vb : Reg) (s : State) : Result :=
  requireSpv s (completeSat s vd (f (s.vr va) (s.vr vb)))

/-- A saturating AltiVec instruction of three sources. -/
def vec3Sat (f : Vec → Vec → Vec → Vec × Bool) (vd va vb vc : Reg) (s : State) : Result :=
  requireSpv s (completeSat s vd (f (s.vr va) (s.vr vb) (s.vr vc)))

/-- A compare completes: the result, and with Rc = 1 the record in CR6 (rule R34). -/
def completeCompare (s : State) (vd : Reg) (rc : Bool) (v : Vec) (record : Vec → BitVec 4) : Result :=
  .next (if rc then (s.setVr vd v).setCr6 (record v) else s.setVr vd v).advance

/-- The four word elements of a vector. -/
def wordsOf (v : Vec) : List Word := [word v 0, word v 1, word v 2, word v 3]

/-- The quad-word load from `EA & ~0xF` in a translation context (rules R291, R295, R303). -/
def loadQuad (s : State) (vd ra rb : Reg) (ctx : AccessCtx) (isExternal : Bool) : Result :=
  access s (alignDown 4 (s.ea ra rb)) .load ctx isExternal (s.partialLoad vd)
    fun real => complete s vd (s.readQuad real)

/-- The quad-word store to `EA & ~0xF` in a translation context (rules R291, R308, R313). -/
def storeQuad (s : State) (vs ra rb : Reg) (ctx : AccessCtx) (isExternal : Bool) : Result :=
  access s (alignDown 4 (s.ea ra rb)) .store ctx isExternal s
    fun real => .next (s.writeBytes real 16 (byte (s.vr vs))).advance

/-- Store the `n` bytes `f 0 … f (n - 1)` at the effective address `a` (rules R291, R326). -/
def storeBytes (s : State) (a : DWord) (n : Nat) (f : Nat → Byte) : Result :=
  access s a .store s.normalCtx false s fun real => .next (s.writeBytes real n f).advance

end Sys2Proof.Machine
end

