-- ==== Sys2Proof/Machine/Base.lean ====
section
/-! DEFINITION. The base instructions (49_base_isa_subset.md rules R420 to R429) and `rfi` (rule R451). None of them tests
MSR[SPV]. -/

namespace Sys2Proof.Machine

open Sys2Proof

/-- What an SPR reads as, in a 64-bit register (rules R428, R451, R32). -/
def State.readSpr (s : State) (r : Spr) : DWord :=
  match r with
  | .lr => s.lr
  | .ctr => s.ctr
  | .srr0 => s.srr0
  | .srr1 => s.srr1
  | .vrsave => s.vrsave.setWidth 64
  | .ivor32 => s.ivor32.setWidth 64
  | .ivor33 => s.ivor33.setWidth 64

/-- Write an SPR (rules R429, R451, R32): VRSAVE takes the low 32 bits; an IVOR takes its 16 low bits with the last four
zero, since handlers are 16-byte aligned. -/
def State.writeSpr (s : State) (r : Spr) (v : DWord) : State :=
  match r with
  | .lr => { s with lr := v }
  | .ctr => { s with ctr := v }
  | .srr0 => { s with srr0 := v }
  | .srr1 => { s with srr1 := v }
  | .vrsave => { s with vrsave := v.setWidth 32 }
  | .ivor32 => { s with ivor32 := v.setWidth 16 &&& 0xFFF0 }
  | .ivor33 => { s with ivor33 := v.setWidth 16 &&& 0xFFF0 }

/-- `mfspr` and `mtspr`: an SPR number no rule gives is left to the base machine, a supervisor register in user state raises the program
interrupt (rules R428, R429, R430). -/
def withSpr (n : BitVec 10) (s : State) (go : Spr → Result) : Result :=
  match Spr.ofNum n with
  | none => orBase s (.sprNotListed n)
  | some r => if r.supervisor then requireSupervisor s (go r) else go r

/-- `CTR - 1` where BO[2] is 0, else CTR (rule R426). -/
def State.branchCtr (s : State) (bo : BitVec 5) : DWord :=
  if bo.getMsbD 2 then s.ctr else Cfg.toXlen s.cfg (s.ctr - 1)

/-- Is the branch taken (rule R426)? The count that is tested is the whole new CTR in 64-bit mode and its low 32 bits in
32-bit mode. -/
def State.branchTaken (s : State) (bo bi : BitVec 5) : Bool :=
  let ctrOk := bo.getMsbD 2 || ((s.modeAddr (s.branchCtr bo) != 0) ^^ bo.getMsbD 3)
  let condOk := bo.getMsbD 0 || (s.crBit bi == bo.getMsbD 1)
  ctrOk && condOk


/-- `addi`: Add Immediate (rule R421). -/
def execAddi (rd ra : Reg) (simm : BitVec 16) (s : State) : Result :=
  .next (s.setGpr rd (s.gprOrZero ra + simm.signExtend 64)).advance

/-- `addis`: Add Immediate Shifted (rule R422). -/
def execAddis (rd ra : Reg) (simm : BitVec 16) (s : State) : Result :=
  .next (s.setGpr rd (s.gprOrZero ra + (simm ++ 0#16).signExtend 64)).advance

/-- `ori`: OR Immediate (rule R427). -/
def execOri (ra rs : Reg) (uimm : BitVec 16) (s : State) : Result :=
  .next (s.setGpr ra (s.gpr rs ||| uimm.setWidth 64)).advance

/-- `srawi`: Shift Right Algebraic Word Immediate (rule R423). -/
def execSrawi (ra rs : Reg) (sh : BitVec 5) (s : State) : Result :=
  let w : Word := (s.gpr rs).setWidth 32
  .next { s.setGpr ra ((w.sshiftRight sh.toNat).signExtend 64) with xerCA := shiftCarry w sh.toNat }.advance

/-- `b`: Branch (rule R425). -/
def execB (li : BitVec 24) (s : State) : Result := .next (s.setPc (s.pc + (li ++ 0#2).signExtend 64))

/-- `bc`: Branch Conditional (rule R426). -/
def execBc (bo bi : BitVec 5) (bd : BitVec 14) (s : State) : Result :=
  let t : State := { s with ctr := s.branchCtr bo }
  .next (if s.branchTaken bo bi then t.setPc (s.pc + (bd ++ 0#2).signExtend 64) else t.advance)

/-- `mfspr`: Move From Special-Purpose Register (rule R428). -/
def execMfspr (rd : Reg) (spr : BitVec 10) (s : State) : Result :=
  withSpr spr s fun r => .next (s.setGpr rd (s.readSpr r)).advance

/-- `mtspr`: Move To Special-Purpose Register (rule R429). -/
def execMtspr (spr : BitVec 10) (rs : Reg) (s : State) : Result :=
  withSpr spr s fun r => .next (s.writeSpr r (s.gpr rs)).advance

/-- `rfi`: Return from Interrupt (rule R451). -/
def execRfi (s : State) : Result := requireSupervisor s (.next s.returnFromInterrupt)

end Sys2Proof.Machine
end

