-- ==== Sys2Proof/Machine/CompareLogicShift.lean ====
section
/-! DEFINITION. Integer compares, logical operations, rotates and shifts
(42_compare_logical_rotate_shift.md rules R200 to R228). -/

namespace Sys2Proof.Machine

open Sys2Proof

/-- A TRUE element (all ones) or a FALSE one (zero) (rule R200). -/
def truth (n : Nat) (b : Bool) : BitVec n := if b then BitVec.allOnes n else 0

/-- The integer compare template: the result, and with Rc = 1 the record in CR6 (rules R34, R200). -/
def compareInt (f : Vec → Vec → Vec) (vd va vb : Reg) (rc : Bool) (s : State) : Result :=
  requireSpv s (completeCompare s vd rc (f (s.vr va) (s.vr vb)) cr6OfCompare)

/-- Equality of two elements (rules R201 to R203). -/
def cmpEq {n : Nat} (x y : BitVec n) : BitVec n := truth n (x == y)

/-- `uint(x) > uint(y)` (rules R204 to R206). -/
def cmpGtU {n : Nat} (x y : BitVec n) : BitVec n := truth n (decide (y.toNat < x.toNat))

/-- `sint(x) > sint(y)` (rules R207 to R209). -/
def cmpGtS {n : Nat} (x y : BitVec n) : BitVec n := truth n (decide (y.toInt < x.toInt))

/-- The shift count: the low-order log2(N) bits of the vB element (rule R216). -/
def shiftCount {n : Nat} (y : BitVec n) : Nat := y.toNat % n

/-- Rotate left (rules R217 to R219). -/
def rotL {n : Nat} (x y : BitVec n) : BitVec n := x.rotateLeft (shiftCount y)

/-- Shift left, zeros entering on the right (rules R220 to R222). -/
def shiftL {n : Nat} (x y : BitVec n) : BitVec n := x <<< shiftCount y

/-- Shift right, zeros entering on the left (rules R223 to R225). -/
def shiftR {n : Nat} (x y : BitVec n) : BitVec n := x >>> shiftCount y

/-- Shift right, the sign bit entering on the left (rules R226 to R228). -/
def shiftRA {n : Nat} (x y : BitVec n) : BitVec n := x.sshiftRight (shiftCount y)


/-- `vcmpequb`: Vector Compare Equal-to Unsigned Byte (rule R201). -/
def execVcmpequb (vd va vb : Reg) (rc : Bool) (s : State) : Result := compareInt (mapBytes cmpEq) vd va vb rc s

/-- `vcmpequh`: Vector Compare Equal-to Unsigned Half Word (rule R202). -/
def execVcmpequh (vd va vb : Reg) (rc : Bool) (s : State) : Result := compareInt (mapHalves cmpEq) vd va vb rc s

/-- `vcmpequw`: Vector Compare Equal-to Unsigned Word (rule R203). -/
def execVcmpequw (vd va vb : Reg) (rc : Bool) (s : State) : Result := compareInt (mapWords cmpEq) vd va vb rc s

/-- `vcmpgtub`: Vector Compare Greater-Than Unsigned Byte (rule R204). -/
def execVcmpgtub (vd va vb : Reg) (rc : Bool) (s : State) : Result := compareInt (mapBytes cmpGtU) vd va vb rc s

/-- `vcmpgtuh`: Vector Compare Greater-Than Unsigned Half Word (rule R205). -/
def execVcmpgtuh (vd va vb : Reg) (rc : Bool) (s : State) : Result := compareInt (mapHalves cmpGtU) vd va vb rc s

/-- `vcmpgtuw`: Vector Compare Greater-Than Unsigned Word (rule R206). -/
def execVcmpgtuw (vd va vb : Reg) (rc : Bool) (s : State) : Result := compareInt (mapWords cmpGtU) vd va vb rc s

/-- `vcmpgtsb`: Vector Compare Greater-Than Signed Byte (rule R207). -/
def execVcmpgtsb (vd va vb : Reg) (rc : Bool) (s : State) : Result := compareInt (mapBytes cmpGtS) vd va vb rc s

/-- `vcmpgtsh`: Vector Compare Greater-Than Signed Half Word (rule R208). -/
def execVcmpgtsh (vd va vb : Reg) (rc : Bool) (s : State) : Result := compareInt (mapHalves cmpGtS) vd va vb rc s

/-- `vcmpgtsw`: Vector Compare Greater-Than Signed Word (rule R209). -/
def execVcmpgtsw (vd va vb : Reg) (rc : Bool) (s : State) : Result := compareInt (mapWords cmpGtS) vd va vb rc s

/-- `vand`: Vector Logical AND (rule R211). -/
def execVand (vd va vb : Reg) (s : State) : Result := vec2 (fun a b => a &&& b) vd va vb s

/-- `vandc`: Vector Logical AND with Complement (rule R212). -/
def execVandc (vd va vb : Reg) (s : State) : Result := vec2 (fun a b => a &&& ~~~b) vd va vb s

/-- `vor`: Vector Logical OR (rule R213). -/
def execVor (vd va vb : Reg) (s : State) : Result := vec2 (fun a b => a ||| b) vd va vb s

/-- `vxor`: Vector Logical XOR (rule R214). -/
def execVxor (vd va vb : Reg) (s : State) : Result := vec2 (fun a b => a ^^^ b) vd va vb s

/-- `vnor`: Vector Logical NOR (rule R215). -/
def execVnor (vd va vb : Reg) (s : State) : Result := vec2 (fun a b => ~~~(a ||| b)) vd va vb s

/-- `vrlb`: Vector Rotate Left Integer Byte (rule R217). -/
def execVrlb (vd va vb : Reg) (s : State) : Result := vec2 (mapBytes rotL) vd va vb s

/-- `vrlh`: Vector Rotate Left Integer Half Word (rule R218). -/
def execVrlh (vd va vb : Reg) (s : State) : Result := vec2 (mapHalves rotL) vd va vb s

/-- `vrlw`: Vector Rotate Left Integer Word (rule R219). -/
def execVrlw (vd va vb : Reg) (s : State) : Result := vec2 (mapWords rotL) vd va vb s

/-- `vslb`: Vector Shift Left Integer Byte (rule R220). -/
def execVslb (vd va vb : Reg) (s : State) : Result := vec2 (mapBytes shiftL) vd va vb s

/-- `vslh`: Vector Shift Left Integer Half Word (rule R221). -/
def execVslh (vd va vb : Reg) (s : State) : Result := vec2 (mapHalves shiftL) vd va vb s

/-- `vslw`: Vector Shift Left Integer Word (rule R222). -/
def execVslw (vd va vb : Reg) (s : State) : Result := vec2 (mapWords shiftL) vd va vb s

/-- `vsrb`: Vector Shift Right Byte (rule R223). -/
def execVsrb (vd va vb : Reg) (s : State) : Result := vec2 (mapBytes shiftR) vd va vb s

/-- `vsrh`: Vector Shift Right Half Word (rule R224). -/
def execVsrh (vd va vb : Reg) (s : State) : Result := vec2 (mapHalves shiftR) vd va vb s

/-- `vsrw`: Vector Shift Right Word (rule R225). -/
def execVsrw (vd va vb : Reg) (s : State) : Result := vec2 (mapWords shiftR) vd va vb s

/-- `vsrab`: Vector Shift Right Algebraic Byte (rule R226). -/
def execVsrab (vd va vb : Reg) (s : State) : Result := vec2 (mapBytes shiftRA) vd va vb s

/-- `vsrah`: Vector Shift Right Algebraic Half Word (rule R227). -/
def execVsrah (vd va vb : Reg) (s : State) : Result := vec2 (mapHalves shiftRA) vd va vb s

/-- `vsraw`: Vector Shift Right Algebraic Word (rule R228). -/
def execVsraw (vd va vb : Reg) (s : State) : Result := vec2 (mapWords shiftRA) vd va vb s

end Sys2Proof.Machine
end

