-- ==== Sys2Proof/Machine/FloatOps.lean ====
section
/-! DEFINITION. The single-precision format and its arithmetic on exact integers (43_floating_point.md rules R240 to R249),
and the definitions of the element operations (rules R250 to R267). A finite element is an integer number of 2^-149. -/

namespace Sys2Proof.Machine

open Sys2Proof

/-! ### The format -/

/-- The sign bit, `x[0]` (rule R240). -/
def signOf (x : Word) : Bool := x.getLsbD 31

/-- The biased exponent, `x[1:8]`. -/
def expOf (x : Word) : Nat := (x.extractLsb' 23 8).toNat

/-- The fraction, `x[9:31]`. -/
def fracOf (x : Word) : Nat := (x.extractLsb' 0 23).toNat

/-- A NaN (rule R241). -/
def isNaN (x : Word) : Bool := expOf x == 255 && fracOf x != 0

/-- An infinity (rule R242). -/
def isInf (x : Word) : Bool := expOf x == 255 && fracOf x == 0

/-- A zero of either sign (rule R242). -/
def isZero (x : Word) : Bool := expOf x == 0 && fracOf x == 0

/-- The NaN made quiet (rule R241). -/
def quiet (x : Word) : Word := x ||| 0x00400000

/-- `QNaNdefault` (rule R241). -/
def qnanDefault : Word := 0x7FC00000

/-- The other sign. -/
def negate (x : Word) : Word := x ^^^ 0x80000000

/-- `flushIn`: with NJ = 1 a denormalized source element counts as a zero of its sign (rules R242, R245). -/
def flushIn (nj : Bool) (x : Word) : Word := if nj && isDenormal x then x &&& 0x80000000 else x

/-- The magnitude of a finite element in units of 2^-149 (rule R240); of an infinity, 2^277, above all of them. -/
def magOf (x : Word) : Nat := if expOf x = 0 then fracOf x else (2 ^ 23 + fracOf x) * 2 ^ (expOf x - 1)

/-- The value of a finite element in units of 2^-149 (rule R240). -/
def valueOf (x : Word) : Int := if signOf x then -(magOf x : Int) else magOf x

/-- A sign and the 31 bits below it. -/
def withSign (neg : Bool) (n : Nat) : Word := BitVec.ofBool neg ++ BitVec.ofNat 31 n

/-- An infinity of the given sign. -/
def infOf (neg : Bool) : Word := withSign neg 0x7F800000

/-! ### Rounding -/

/-- `num / den` rounded to the nearest integer, ties to even. -/
def nearest (num den : Nat) : Nat :=
  let q := num / den
  let r := num % den
  if den < 2 * r ∨ (2 * r = den ∧ q % 2 = 1) then q + 1 else q

/-- `RndToNearFP32` of the non-zero value `± m / 2^scale`, scale at least 149 (rule R243): below 2^-126, detected before
rounding, the result is denormalized, or with NJ = 1 a zero; beyond the largest finite number it is an infinity. -/
def roundMag (nj neg : Bool) (m scale : Nat) : Word :=
  let p := m.log2
  if p + 126 < scale then withSign neg (if nj then 0 else nearest m (2 ^ (scale - 149)))
  else
    let q := if 23 ≤ p then nearest m (2 ^ (p - 23)) else m * 2 ^ (23 - p)
    let n := (p + 126 - scale) * 2 ^ 23 + q
    withSign neg (if 0x7F800000 ≤ n then 0x7F800000 else n)

/-- `RndToNearFP32` of the non-zero value `x / 2^scale` (rule R243). -/
def roundInt (nj : Bool) (x : Int) (scale : Nat) : Word := roundMag nj (decide (x < 0)) x.natAbs scale

/-! ### NaN operands (rule R248) -/

/-- `NaNresult(a, b)`, or `r` where neither is a NaN. -/
def orNaN2 (a b r : Word) : Word := if isNaN a then quiet a else if isNaN b then quiet b else r

/-- `NaNresult(a, b, c)`, or `r` where none is a NaN. -/
def orNaN3 (a b c r : Word) : Word := if isNaN a then quiet a else orNaN2 b c r

/-! ### Arithmetic (rules R250 to R255) -/

/-- The sum of two elements that are no NaNs (rule R250). -/
def addNum (nj : Bool) (a b : Word) : Word :=
  if isInf a then (if isInf b && (signOf a != signOf b) then qnanDefault else a)
  else if isInf b then b
  else
    let x := valueOf a + valueOf b
    if x = 0 then withSign (signOf a && signOf b) 0 else roundInt nj x 149

/-- `FPadd` on source elements (rule R250). -/
def fpAdd (nj : Bool) (x y : Word) : Word :=
  let a := flushIn nj x
  let b := flushIn nj y
  orNaN2 a b (addNum nj a b)

/-- `FPsub` on source elements (rule R251). -/
def fpSub (nj : Bool) (x y : Word) : Word :=
  let a := flushIn nj x
  let b := flushIn nj y
  orNaN2 a b (addNum nj a (negate b))

/-- `a * c + b` with one rounding, for elements that are no NaNs (rule R252). -/
def maddNum (nj : Bool) (a c b : Word) : Word :=
  let neg := signOf a ^^ signOf c
  if isInf a || isInf c then
    if isZero a || isZero c || (isInf b && (signOf b != neg)) then qnanDefault else infOf neg
  else if isInf b then b
  else
    let x := valueOf a * valueOf c + valueOf b * 2 ^ 149
    if x = 0 then withSign (neg && signOf b) 0 else roundInt nj x 298

/-- `FPmadd` on the source elements of vA, vB and vC (rule R252). -/
def fpMadd (nj : Bool) (x y z : Word) : Word :=
  let a := flushIn nj x
  let b := flushIn nj y
  let c := flushIn nj z
  orNaN3 a b c (maddNum nj a c b)

/-- `-(a * c - b)` on the source elements of vA, vB and vC; a NaN result is not negated (rule R253). -/
def fpNmsub (nj : Bool) (x y z : Word) : Word :=
  let a := flushIn nj x
  let b := flushIn nj y
  let c := flushIn nj z
  let t := maddNum nj a c (negate b)
  orNaN3 a b c (if isNaN t then t else negate t)

/-- `a ≥fp b` (rule R249). -/
def fpGe (a b : Word) : Bool := !isNaN a && !isNaN b && decide (valueOf b ≤ valueOf a)

/-- `a >fp b` (rule R249). -/
def fpGt (a b : Word) : Bool := !isNaN a && !isNaN b && decide (valueOf b < valueOf a)

/-- `a =fp b` (rule R249). -/
def fpEq (a b : Word) : Bool := !isNaN a && !isNaN b && decide (valueOf a = valueOf b)

/-- `FPmax` on source elements (rule R254). -/
def fpMax (nj : Bool) (x y : Word) : Word :=
  let a := flushIn nj x
  let b := flushIn nj y
  orNaN2 a b (if isZero a && isZero b then a &&& b else if fpGe a b then a else b)

/-- `FPmin` on source elements (rule R255). -/
def fpMin (nj : Bool) (x y : Word) : Word :=
  let a := flushIn nj x
  let b := flushIn nj y
  orNaN2 a b (if isZero a && isZero b then a ||| b else if fpGt b a then a else b)

/-! ### Compares (rules R256 to R259) -/

/-- A compare element: TRUE or FALSE of the relation on the flushed elements (rule R249). -/
def fpCmp (rel : Word → Word → Bool) (nj : Bool) (x y : Word) : Word :=
  if rel (flushIn nj x) (flushIn nj y) then 0xFFFFFFFF else 0

/-- A bounds element: `not (a ≤ b) || not (a ≥ -b) || (30)0` (rule R259). -/
def fpBounds (nj : Bool) (x y : Word) : Word :=
  let a := flushIn nj x
  let b := flushIn nj y
  BitVec.ofBool (!fpGe b a) ++ BitVec.ofBool (!fpGe a (negate b)) ++ 0#30

/-! ### Conversion and rounding to integral (rules R260 to R267) -/

/-- An integer over 2^UIMM as a single-precision number (rules R247, R260, R261). -/
def fromInteger (k : Int) (uimm : Nat) : Word := if k = 0 then 0 else roundInt false (k * 2 ^ 149) (149 + uimm)

/-- `trunc(value(x) * 2^UIMM)` (rule R247). -/
def toInteger (x : Word) (uimm : Nat) : Int :=
  let t : Nat := magOf x * 2 ^ uimm / 2 ^ 149
  if signOf x then -(t : Int) else t

/-- An element of `vctuxs` (rules R247, R262). -/
def toU32 (nj : Bool) (uimm : Nat) (y : Word) : Word × Bool :=
  let x := flushIn nj y
  if isNaN x then (0, false)
  else if isInf x then (if signOf x then 0 else 0xFFFFFFFF, true)
  else satU 32 (toInteger x uimm)

/-- An element of `vctsxs` (rules R247, R263). -/
def toS32 (nj : Bool) (uimm : Nat) (y : Word) : Word × Bool :=
  let x := flushIn nj y
  if isNaN x then (0, false)
  else if isInf x then (if signOf x then 0x80000000 else 0x7FFFFFFF, true)
  else satS 32 (toInteger x uimm)

/-- The four directions of rounding to an integral value (rule R246). -/
inductive RoundDir where
  /-- To nearest, ties to even: `vrfin`. -/
  | near
  /-- Toward zero: `vrfiz`. -/
  | trunc
  /-- Toward plus infinity: `vrfip`. -/
  | ceil
  /-- Toward minus infinity: `vrfim`. -/
  | floor
  deriving DecidableEq, Repr

/-- The rounded magnitude of `± m * 2^-149` as an integer (rule R246). -/
def integralMag (d : RoundDir) (neg : Bool) (m : Nat) : Nat :=
  let up := (m + (2 ^ 149 - 1)) / 2 ^ 149
  match d with
  | .near => nearest m (2 ^ 149)
  | .trunc => m / 2 ^ 149
  | .ceil => if neg then m / 2 ^ 149 else up
  | .floor => if neg then up else m / 2 ^ 149

/-- An element rounded to an integral value; a zero result keeps the operand's sign (rules R246, R248). -/
def fpIntegral (d : RoundDir) (nj : Bool) (y : Word) : Word :=
  let x := flushIn nj y
  if isNaN x then quiet x
  else if isInf x then x
  else
    let i := integralMag d (signOf x) (magOf x)
    if i = 0 then withSign (signOf x) 0 else roundMag false (signOf x) (i * 2 ^ 149) 149

/-! ### The instruction templates (rule R276) -/

/-- A floating-point instruction of one source: the assist test comes before the result. -/
def float1 (i : Instr) (f : Bool → Word → Word) (vd vb : Reg) (s : State) : Result :=
  requireSpv s (orAssist i (wordsOf (s.vr vb)) s (complete s vd (ofWords fun k => f s.nj (word (s.vr vb) k))))

/-- A floating-point instruction of two sources. -/
def float2 (i : Instr) (f : Bool → Word → Word → Word) (vd va vb : Reg) (s : State) : Result :=
  requireSpv s (orAssist i (wordsOf (s.vr va) ++ wordsOf (s.vr vb)) s
    (complete s vd (mapWords (f s.nj) (s.vr va) (s.vr vb))))

/-- A floating-point instruction of three sources. -/
def float3 (i : Instr) (f : Bool → Word → Word → Word → Word) (vd va vb vc : Reg) (s : State) : Result :=
  requireSpv s (orAssist i (wordsOf (s.vr va) ++ wordsOf (s.vr vb) ++ wordsOf (s.vr vc)) s
    (complete s vd (ofWords fun k => f s.nj (word (s.vr va) k) (word (s.vr vb) k) (word (s.vr vc) k))))

/-- A floating-point compare (rules R249, R259). -/
def floatCmp (i : Instr) (f : Bool → Word → Word → Word) (record : Vec → BitVec 4) (vd va vb : Reg) (rc : Bool)
    (s : State) : Result :=
  requireSpv s (orAssist i (wordsOf (s.vr va) ++ wordsOf (s.vr vb)) s
    (completeCompare s vd rc (mapWords (f s.nj) (s.vr va) (s.vr vb)) record))

/-- A conversion to integers with saturation (rules R262, R263). -/
def floatToInt (i : Instr) (f : Bool → Nat → Word → Word × Bool) (vd vb : Reg) (uimm : BitVec 5) (s : State) : Result :=
  requireSpv s (orAssist i (wordsOf (s.vr vb)) s
    (completeSat s vd (buildSat 32 4 fun k => f s.nj uimm.toNat (word (s.vr vb) k))))

end Sys2Proof.Machine
end

