-- ==== Sys2Proof/Machine/EstimateOps.lean ====
section
/-! DEFINITION. The permitted results of the four estimate instructions (43_floating_point.md rules R268 to R271): which
words the error bounds admit for an element, and one of them, which the meaning falls back on where the free value of the
draw is not admitted. Reciprocal and reciprocal square root are decided exactly. For the logarithm and the power, which
are irrational but for some operands, an interval that holds the exact value is computed, and a word is admitted that
meets the bound wherever in the interval the exact value lies: an interval of 2^-148 for a logarithm, and of 2^-180 of its
value for a power. -/

namespace Sys2Proof.Machine

open Sys2Proof

/-! ### Integer roots and rounding of quotients -/

/-- The integer square root below `2 ^ k`, built bit by bit on top of `acc`. -/
def rootBits (n : Nat) : Nat → Nat → Nat
  | 0, acc => acc
  | k + 1, acc => if (acc + 2 ^ k) * (acc + 2 ^ k) ≤ n then rootBits n k (acc + 2 ^ k) else rootBits n k acc

/-- `RndToNearFP32` of `num / den` units of 2^-149: 64 more bits and a sticky one make the rounding exact. -/
def roundQuot (nj neg : Bool) (num den : Nat) : Word :=
  let q := num * 2 ^ 64 / den
  roundMag nj neg (2 * q + if q * den = num * 2 ^ 64 then 0 else 1) 214

/-- Is the magnitude `n` of a word the rounding of some real between `lo / den` and `hi / den` units of 2^-149, or a
normal number between them (rules R268, R271)? `e` of infinity stands for an overflow; with NJ = 1 no denormalized result is
admitted and an underflow is a zero. -/
def admitted (nj : Bool) (lo hi den : Nat) (e : Word) : Bool :=
  let n := magOf e
  if isNaN e then false
  else if isInf e then decide ((2 ^ 277 - 2 ^ 252) * den ≤ hi)
  else
    (n != 0 && (!nj || !isDenormal e) && decide (lo ≤ n * den) && decide (n * den ≤ hi))
      || (decide (lo < 2 ^ 23 * den)
        && if nj then n == 0 else decide (nearest lo den ≤ n) && decide (n ≤ min (nearest hi den) (2 ^ 23)))

/-- The free word where the set admits it, else the fallback. -/
def estimate (ok : Word → Bool) (fallback draw : Word) : Word := if ok draw then draw else fallback

/-! ### Reciprocal (rule R268) -/

/-- The words admitted for 1/x, x finite and not zero: relative error at most 1/4096. -/
def recipOk (nj : Bool) (x e : Word) : Bool :=
  (signOf e == signOf x) && admitted nj (2 ^ 298 * 4095) (2 ^ 298 * 4097) (4096 * magOf x) e

/-- `EstRecip` of a source element (rules R268, R272). -/
def estRecip (nj : Bool) (draw y : Word) : Word :=
  let x := flushIn nj y
  if isNaN x then quiet x
  else if isZero x then infOf (signOf x)
  else if isInf x then withSign (signOf x) 0
  else estimate (recipOk nj x) (roundQuot nj (signOf x) (2 ^ 298) (magOf x)) draw

/-! ### Reciprocal square root (rule R269) -/

/-- The words admitted for 1/sqrt(x), x positive and finite: relative error at most 1/4096. -/
def rsqrtOk (x e : Word) : Bool :=
  let n := magOf e
  !signOf e && !isNaN e && !isInf e && decide (4095 ^ 2 * 2 ^ 447 ≤ 4096 ^ 2 * n ^ 2 * magOf x)
    && decide (4096 ^ 2 * n ^ 2 * magOf x ≤ 4097 ^ 2 * 2 ^ 447)

/-- The correctly rounded reciprocal square root of `m` units of 2^-149. -/
def rsqrtNear (m : Nat) : Word :=
  let t := rootBits (2 ^ 575 / m) 300 0
  roundMag false false (2 * t + if t * t * m = 2 ^ 575 then 0 else 1) 214

/-- `EstRsqrt` of a source element (rules R269, R273). -/
def estRsqrt (nj : Bool) (draw y : Word) : Word :=
  let x := flushIn nj y
  if isNaN x then quiet x
  else if isZero x then infOf (signOf x)
  else if signOf x then qnanDefault
  else if isInf x then 0
  else estimate (rsqrtOk x) (rsqrtNear (magOf x)) draw

/-! ### Logarithm (rule R270) -/

/-- `k` more bits, after those in `acc`, of the base-2 logarithm of `f / 2^192`, 1 ≤ f / 2^192 < 2: each squaring gives the
next bit, its result rounded down. -/
def logBits : Nat → Nat → Nat → Nat
  | 0, _, acc => acc
  | k + 1, f, acc =>
    let g := f * f / 2 ^ 192
    if 2 ^ 193 ≤ g then logBits k (g / 2) (2 * acc + 1) else logBits k g (2 * acc)

/-- `log2(m * 2^-149)` in units of 2^-149, m not zero, from below. -/
def logFloor (m : Nat) : Int := ((m.log2 : Int) - 149) * 2 ^ 149 + (logBits 149 (m * 2 ^ 192 / 2 ^ m.log2) 0 : Nat)

/-- Bounds of `log2(m * 2^-149)` in units of 2^-149, m not zero; equal where m is a power of two. -/
def logBounds (m : Nat) : Int × Int := (logFloor m, if m = 2 ^ m.log2 then logFloor m else logFloor m + 2)

/-- The words admitted for a logarithm between `lo` and `hi`: absolute error at most 1/32, and relative to the magnitude of
the logarithm at most 1/8, wherever between the two it lies. -/
def logOk (lo hi : Int) (e : Word) : Bool :=
  let v := valueOf e
  let b := min (2 ^ 147) (max lo (-hi))
  !isNaN e && !isInf e && decide (8 * hi - b ≤ 8 * v) && decide (8 * v ≤ 8 * lo + b)

/-- `EstLog2` of a source element (rules R270, R274). -/
def estLog2 (nj : Bool) (draw y : Word) : Word :=
  let x := flushIn nj y
  if isNaN x then quiet x
  else if isZero x then infOf true
  else if signOf x then qnanDefault
  else if isInf x then x
  else
    let (lo, hi) := logBounds (magOf x)
    estimate (logOk lo hi) (if lo + hi = 0 then 0 else roundInt false (lo + hi) 150) draw

/-! ### Power of two (rule R271) -/

/-- `acc` times `c / 2^192` to the power `g / 2^k`, g below 2^k: a square root for each bit of g; every root and every
product is rounded down. -/
def powBits : Nat → Nat → Nat → Nat → Nat
  | 0, _, _, acc => acc
  | k + 1, g, c, acc =>
    if g = 0 then acc
    else
      let r := rootBits (c * 2 ^ 192) 193 0
      powBits k (g % 2 ^ k) r (if 2 ^ k ≤ g then acc * r / 2 ^ 192 else acc)

/-- Bounds of `2^192 * 2^(g / 2^149)`, g below 2^149. -/
def powBounds (g : Nat) : Nat × Nat :=
  let lo := powBits 149 g (2 ^ 193) (2 ^ 192)
  (lo, lo + 2 ^ 11)

/-- The words admitted for a power between `lo / den` and `hi / den` units of 2^-149, wherever between the two it lies:
relative error at most 1/16; an infinity where a value within the error rounds to it; for a power below 2^-126 (`tiny`)
what a value within the error rounds to; with NJ = 1 a zero where a value within the error is below 2^-126. -/
def powOk (nj tiny : Bool) (lo hi den : Nat) (e : Word) : Bool :=
  let n := magOf e
  if signOf e || isNaN e then false
  else if isInf e then decide ((2 ^ 277 - 2 ^ 252) * (16 * den) ≤ 17 * lo)
  else if tiny then
    decide (nearest (15 * hi) (16 * den) ≤ n) && decide (n ≤ min (nearest (17 * lo) (16 * den)) (2 ^ 23))
  else if nj && decide (n < 2 ^ 23) then n == 0 && decide (15 * hi < 2 ^ 23 * (16 * den))
  else decide (15 * hi ≤ n * (16 * den)) && decide (n * (16 * den) ≤ 17 * lo)

/-- `2^x` for a finite x that is no zero (rule R271): +∞ from 128 on; +0 below -160, for a power below 2^-126 with NJ = 1,
and for an integral x below -149; exact for any other integral x; else an estimate. -/
def powNum (nj : Bool) (draw x : Word) : Word :=
  let v := valueOf x
  let whole := v / 2 ^ 149
  let part := (v % 2 ^ 149).toNat
  if 128 ≤ whole then infOf false
  else if whole < -160 ∨ (nj = true ∧ whole < -126) ∨ (part = 0 ∧ whole < -149) then 0
  else
    let sh := (whole + 160).toNat
    if part = 0 then roundMag nj false (2 ^ sh) 160
    else
      let (lo, hi) := powBounds part
      let den := 2 ^ 203
      estimate (powOk nj (decide (whole < -126)) (lo * 2 ^ sh) (hi * 2 ^ sh) den)
        (roundQuot nj false ((lo + hi) * 2 ^ sh) (2 * den)) draw

/-- `EstExp2` of a source element (rules R271, R275). -/
def estExp2 (nj : Bool) (draw y : Word) : Word :=
  let x := flushIn nj y
  if isNaN x then quiet x
  else if isZero x then 0x3F800000
  else if isInf x then (if signOf x then 0 else x)
  else powNum nj draw x

/-! ### The instruction template -/

/-- An estimate instruction: every element is a draw of its own (rules R272 to R275). -/
def estimate1 (i : Instr) (f : Bool → Word → Word → Word) (vd vb : Reg) (s : State) : Result :=
  requireSpv s (orAssist i (wordsOf (s.vr vb)) s
    (complete (s.drawn 4) vd (ofWords fun k => f s.nj (Config.freeEstimate (s.freeCtr + k)) (word (s.vr vb) k))))

end Sys2Proof.Machine
end

