-- ==== Sys2Proof/Machine/Float.lean ====
section
/-! DEFINITION. The floating-point instructions (43_floating_point.md rules R250 to R275). -/

namespace Sys2Proof.Machine

open Sys2Proof


/-- `vaddfp`: Vector Add Floating-Point (rule R250). -/
def execVaddfp (vd va vb : Reg) (s : State) : Result := float2 (.vaddfp vd va vb) fpAdd vd va vb s

/-- `vsubfp`: Vector Subtract Floating-Point (rule R251). -/
def execVsubfp (vd va vb : Reg) (s : State) : Result := float2 (.vsubfp vd va vb) fpSub vd va vb s

/-- `vmaxfp`: Vector Maximum Floating-Point (rule R254). -/
def execVmaxfp (vd va vb : Reg) (s : State) : Result := float2 (.vmaxfp vd va vb) fpMax vd va vb s

/-- `vminfp`: Vector Minimum Floating-Point (rule R255). -/
def execVminfp (vd va vb : Reg) (s : State) : Result := float2 (.vminfp vd va vb) fpMin vd va vb s

/-- `vmaddfp`: Vector Multiply-Add Floating-Point (rule R252). -/
def execVmaddfp (vd va vb vc : Reg) (s : State) : Result := float3 (.vmaddfp vd va vb vc) fpMadd vd va vb vc s

/-- `vnmsubfp`: Vector Negative Multiply-Subtract Floating-Point (rule R253). -/
def execVnmsubfp (vd va vb vc : Reg) (s : State) : Result := float3 (.vnmsubfp vd va vb vc) fpNmsub vd va vb vc s

/-- `vcmpeqfp`: Vector Compare Equal-to Floating-Point (rule R256). -/
def execVcmpeqfp (vd va vb : Reg) (rc : Bool) (s : State) : Result :=
  floatCmp (.vcmpeqfp vd va vb rc) (fpCmp fpEq) cr6OfCompare vd va vb rc s

/-- `vcmpgefp`: Vector Compare Greater-Than-or-Equal-to Floating-Point (rule R257). -/
def execVcmpgefp (vd va vb : Reg) (rc : Bool) (s : State) : Result :=
  floatCmp (.vcmpgefp vd va vb rc) (fpCmp fpGe) cr6OfCompare vd va vb rc s

/-- `vcmpgtfp`: Vector Compare Greater-Than Floating-Point (rule R258). -/
def execVcmpgtfp (vd va vb : Reg) (rc : Bool) (s : State) : Result :=
  floatCmp (.vcmpgtfp vd va vb rc) (fpCmp fpGt) cr6OfCompare vd va vb rc s

/-- `vcmpbfp`: Vector Compare Bounds Floating-Point (rule R259). -/
def execVcmpbfp (vd va vb : Reg) (rc : Bool) (s : State) : Result :=
  floatCmp (.vcmpbfp vd va vb rc) fpBounds cr6OfBounds vd va vb rc s

/-- `vcfux`: Vector Convert from Unsigned Fixed-Point Word (rule R260). -/
def execVcfux (vd vb : Reg) (uimm : BitVec 5) (s : State) : Result :=
  vec1 (fun b => ofWords fun i => fromInteger (word b i).toNat uimm.toNat) vd vb s

/-- `vcfsx`: Vector Convert from Signed Fixed-Point Word (rule R261). -/
def execVcfsx (vd vb : Reg) (uimm : BitVec 5) (s : State) : Result :=
  vec1 (fun b => ofWords fun i => fromInteger (word b i).toInt uimm.toNat) vd vb s

/-- `vctuxs`: Vector Convert to Unsigned Fixed-Point Word Saturate (rule R262). -/
def execVctuxs (vd vb : Reg) (uimm : BitVec 5) (s : State) : Result :=
  floatToInt (.vctuxs vd vb uimm) toU32 vd vb uimm s

/-- `vctsxs`: Vector Convert to Signed Fixed-Point Word Saturate (rule R263). -/
def execVctsxs (vd vb : Reg) (uimm : BitVec 5) (s : State) : Result :=
  floatToInt (.vctsxs vd vb uimm) toS32 vd vb uimm s

/-- `vrfin`: Vector Round to Floating-Point Integer Nearest (rule R264). -/
def execVrfin (vd vb : Reg) (s : State) : Result := float1 (.vrfin vd vb) (fpIntegral .near) vd vb s

/-- `vrfiz`: Vector Round to Floating-Point Integer Toward Zero (rule R265). -/
def execVrfiz (vd vb : Reg) (s : State) : Result := float1 (.vrfiz vd vb) (fpIntegral .trunc) vd vb s

/-- `vrfip`: Vector Round to Floating-Point Integer Toward Positive Infinity (rule R266). -/
def execVrfip (vd vb : Reg) (s : State) : Result := float1 (.vrfip vd vb) (fpIntegral .ceil) vd vb s

/-- `vrfim`: Vector Round to Floating-Point Integer Toward Minus Infinity (rule R267). -/
def execVrfim (vd vb : Reg) (s : State) : Result := float1 (.vrfim vd vb) (fpIntegral .floor) vd vb s

/-- `vrefp`: Vector Reciprocal Estimate Floating-Point (rule R272). -/
def execVrefp (vd vb : Reg) (s : State) : Result := estimate1 (.vrefp vd vb) estRecip vd vb s

/-- `vrsqrtefp`: Vector Reciprocal Square Root Estimate Floating-Point (rule R273). -/
def execVrsqrtefp (vd vb : Reg) (s : State) : Result := estimate1 (.vrsqrtefp vd vb) estRsqrt vd vb s

/-- `vlogefp`: Vector Log2 Estimate Floating-Point (rule R274). -/
def execVlogefp (vd vb : Reg) (s : State) : Result := estimate1 (.vlogefp vd vb) estLog2 vd vb s

/-- `vexptefp`: Vector 2 Raised to the Exponent Estimate Floating-Point (rule R275). -/
def execVexptefp (vd vb : Reg) (s : State) : Result := estimate1 (.vexptefp vd vb) estExp2 vd vb s

end Sys2Proof.Machine
end

