-- ==== Sys2Proof/Machine/IntAddSub.lean ====
section
/-! DEFINITION. Integer add, subtract, average, absolute difference, maximum and minimum
(40_integer_add_sub.md rules R110 to R152). -/

namespace Sys2Proof.Machine

open Sys2Proof

/-- An element operation with saturation over the 16 byte elements. -/
def satBytes (f : Byte → Byte → Byte × Bool) (a b : Vec) : Vec × Bool := buildSat 8 16 fun i => f (byte a i) (byte b i)

/-- The same over the 8 half-word elements. -/
def satHalves (f : Half → Half → Half × Bool) (a b : Vec) : Vec × Bool :=
  buildSat 16 8 fun i => f (half a i) (half b i)

/-- The same over the 4 word elements. -/
def satWords (f : Word → Word → Word × Bool) (a b : Vec) : Vec × Bool := buildSat 32 4 fun i => f (word a i) (word b i)

/-- Unsigned saturating sum: `sat_u(N, uint(x) + uint(y))`. -/
def addU {n : Nat} (x y : BitVec n) : BitVec n × Bool := satU n (x.toNat + y.toNat)

/-- Signed saturating sum: `sat_s(N, sint(x) + sint(y))`. -/
def addS {n : Nat} (x y : BitVec n) : BitVec n × Bool := satS n (x.toInt + y.toInt)

/-- Unsigned saturating difference: `sat_u(N, uint(x) - uint(y))`. -/
def subU {n : Nat} (x y : BitVec n) : BitVec n × Bool := satU n (x.toNat - y.toNat : Int)

/-- Signed saturating difference: `sat_s(N, sint(x) - sint(y))`. -/
def subS {n : Nat} (x y : BitVec n) : BitVec n × Bool := satS n (x.toInt - y.toInt)

/-- Unsigned average, rounded up: `bits_N(floor((uint(x) + uint(y) + 1) / 2))` (rules R132 to R134). -/
def avgU {n : Nat} (x y : BitVec n) : BitVec n := BitVec.ofNat n ((x.toNat + y.toNat + 1) / 2)

/-- Signed average: `bits_N(floor((sint(x) + sint(y) + 1) / 2))` (rules R135 to R137). -/
def avgS {n : Nat} (x y : BitVec n) : BitVec n := BitVec.ofInt n ((x.toInt + y.toInt + 1) / 2)

/-- Absolute difference of unsigned elements (rules R138 to R140). -/
def absDiffU {n : Nat} (x y : BitVec n) : BitVec n := BitVec.ofNat n (x.toNat - y.toNat : Int).natAbs

/-- The greater unsigned element (rules R141 to R143). -/
def maxU {n : Nat} (x y : BitVec n) : BitVec n := if y.toNat ≤ x.toNat then x else y

/-- The greater signed element (rules R144 to R146). -/
def maxS {n : Nat} (x y : BitVec n) : BitVec n := if y.toInt ≤ x.toInt then x else y

/-- The lesser unsigned element (rules R147 to R149). -/
def minU {n : Nat} (x y : BitVec n) : BitVec n := if x.toNat ≤ y.toNat then x else y

/-- The lesser signed element (rules R150 to R152). -/
def minS {n : Nat} (x y : BitVec n) : BitVec n := if x.toInt ≤ y.toInt then x else y

/-- The carry out of a word sum, right-justified (rule R115). -/
def carryOut (x y : Word) : Word := if 2 ^ 32 ≤ x.toNat + y.toNat then 1 else 0

/-- The carry out of a word difference: 1 where nothing is borrowed (rule R125). -/
def subCarryOut (x y : Word) : Word := if y.toNat ≤ x.toNat then 1 else 0


/-- `vaddubm`: Vector Add Unsigned Byte Modulo (rule R112). -/
def execVaddubm (vd va vb : Reg) (s : State) : Result := vec2 (mapBytes (· + ·)) vd va vb s

/-- `vadduhm`: Vector Add Unsigned Half Word Modulo (rule R113). -/
def execVadduhm (vd va vb : Reg) (s : State) : Result := vec2 (mapHalves (· + ·)) vd va vb s

/-- `vadduwm`: Vector Add Unsigned Word Modulo (rule R114). -/
def execVadduwm (vd va vb : Reg) (s : State) : Result := vec2 (mapWords (· + ·)) vd va vb s

/-- `vaddcuw`: Vector Add and Write Carry-Out Unsigned Word (rule R115). -/
def execVaddcuw (vd va vb : Reg) (s : State) : Result := vec2 (mapWords carryOut) vd va vb s

/-- `vaddubs`: Vector Add Unsigned Byte Saturate (rule R116). -/
def execVaddubs (vd va vb : Reg) (s : State) : Result := vec2Sat (satBytes addU) vd va vb s

/-- `vadduhs`: Vector Add Unsigned Half Word Saturate (rule R117). -/
def execVadduhs (vd va vb : Reg) (s : State) : Result := vec2Sat (satHalves addU) vd va vb s

/-- `vadduws`: Vector Add Unsigned Word Saturate (rule R118). -/
def execVadduws (vd va vb : Reg) (s : State) : Result := vec2Sat (satWords addU) vd va vb s

/-- `vaddsbs`: Vector Add Signed Byte Saturate (rule R119). -/
def execVaddsbs (vd va vb : Reg) (s : State) : Result := vec2Sat (satBytes addS) vd va vb s

/-- `vaddshs`: Vector Add Signed Half Word Saturate (rule R120). -/
def execVaddshs (vd va vb : Reg) (s : State) : Result := vec2Sat (satHalves addS) vd va vb s

/-- `vaddsws`: Vector Add Signed Word Saturate (rule R121). -/
def execVaddsws (vd va vb : Reg) (s : State) : Result := vec2Sat (satWords addS) vd va vb s

/-- `vsububm`: Vector Subtract Unsigned Byte Modulo (rule R122). -/
def execVsububm (vd va vb : Reg) (s : State) : Result := vec2 (mapBytes (· - ·)) vd va vb s

/-- `vsubuhm`: Vector Subtract Unsigned Half Word Modulo (rule R123). -/
def execVsubuhm (vd va vb : Reg) (s : State) : Result := vec2 (mapHalves (· - ·)) vd va vb s

/-- `vsubuwm`: Vector Subtract Unsigned Word Modulo (rule R124). -/
def execVsubuwm (vd va vb : Reg) (s : State) : Result := vec2 (mapWords (· - ·)) vd va vb s

/-- `vsubcuw`: Vector Subtract and Write Carry-Out Unsigned Word (rule R125). -/
def execVsubcuw (vd va vb : Reg) (s : State) : Result := vec2 (mapWords subCarryOut) vd va vb s

/-- `vsububs`: Vector Subtract Unsigned Byte Saturate (rule R126). -/
def execVsububs (vd va vb : Reg) (s : State) : Result := vec2Sat (satBytes subU) vd va vb s

/-- `vsubuhs`: Vector Subtract Unsigned Half Word Saturate (rule R127). -/
def execVsubuhs (vd va vb : Reg) (s : State) : Result := vec2Sat (satHalves subU) vd va vb s

/-- `vsubuws`: Vector Subtract Unsigned Word Saturate (rule R128). -/
def execVsubuws (vd va vb : Reg) (s : State) : Result := vec2Sat (satWords subU) vd va vb s

/-- `vsubsbs`: Vector Subtract Signed Byte Saturate (rule R129). -/
def execVsubsbs (vd va vb : Reg) (s : State) : Result := vec2Sat (satBytes subS) vd va vb s

/-- `vsubshs`: Vector Subtract Signed Half Word Saturate (rule R130). -/
def execVsubshs (vd va vb : Reg) (s : State) : Result := vec2Sat (satHalves subS) vd va vb s

/-- `vsubsws`: Vector Subtract Signed Word Saturate (rule R131). -/
def execVsubsws (vd va vb : Reg) (s : State) : Result := vec2Sat (satWords subS) vd va vb s

/-- `vavgub`: Vector Average Unsigned Byte (rule R132). -/
def execVavgub (vd va vb : Reg) (s : State) : Result := vec2 (mapBytes avgU) vd va vb s

/-- `vavguh`: Vector Average Unsigned Half Word (rule R133). -/
def execVavguh (vd va vb : Reg) (s : State) : Result := vec2 (mapHalves avgU) vd va vb s

/-- `vavguw`: Vector Average Unsigned Word (rule R134). -/
def execVavguw (vd va vb : Reg) (s : State) : Result := vec2 (mapWords avgU) vd va vb s

/-- `vavgsb`: Vector Average Signed Byte (rule R135). -/
def execVavgsb (vd va vb : Reg) (s : State) : Result := vec2 (mapBytes avgS) vd va vb s

/-- `vavgsh`: Vector Average Signed Half Word (rule R136). -/
def execVavgsh (vd va vb : Reg) (s : State) : Result := vec2 (mapHalves avgS) vd va vb s

/-- `vavgsw`: Vector Average Signed Word (rule R137). -/
def execVavgsw (vd va vb : Reg) (s : State) : Result := vec2 (mapWords avgS) vd va vb s

/-- `vabsdub`: Vector Absolute Difference Unsigned Byte (rule R138). -/
def execVabsdub (vd va vb : Reg) (s : State) : Result := vec2 (mapBytes absDiffU) vd va vb s

/-- `vabsduh`: Vector Absolute Difference Unsigned Half Word (rule R139). -/
def execVabsduh (vd va vb : Reg) (s : State) : Result := vec2 (mapHalves absDiffU) vd va vb s

/-- `vabsduw`: Vector Absolute Difference Unsigned Word (rule R140). -/
def execVabsduw (vd va vb : Reg) (s : State) : Result := vec2 (mapWords absDiffU) vd va vb s

/-- `vmaxub`: Vector Maximum Unsigned Byte (rule R141). -/
def execVmaxub (vd va vb : Reg) (s : State) : Result := vec2 (mapBytes maxU) vd va vb s

/-- `vmaxuh`: Vector Maximum Unsigned Half Word (rule R142). -/
def execVmaxuh (vd va vb : Reg) (s : State) : Result := vec2 (mapHalves maxU) vd va vb s

/-- `vmaxuw`: Vector Maximum Unsigned Word (rule R143). -/
def execVmaxuw (vd va vb : Reg) (s : State) : Result := vec2 (mapWords maxU) vd va vb s

/-- `vmaxsb`: Vector Maximum Signed Byte (rule R144). -/
def execVmaxsb (vd va vb : Reg) (s : State) : Result := vec2 (mapBytes maxS) vd va vb s

/-- `vmaxsh`: Vector Maximum Signed Half Word (rule R145). -/
def execVmaxsh (vd va vb : Reg) (s : State) : Result := vec2 (mapHalves maxS) vd va vb s

/-- `vmaxsw`: Vector Maximum Signed Word (rule R146). -/
def execVmaxsw (vd va vb : Reg) (s : State) : Result := vec2 (mapWords maxS) vd va vb s

/-- `vminub`: Vector Minimum Unsigned Byte (rule R147). -/
def execVminub (vd va vb : Reg) (s : State) : Result := vec2 (mapBytes minU) vd va vb s

/-- `vminuh`: Vector Minimum Unsigned Half Word (rule R148). -/
def execVminuh (vd va vb : Reg) (s : State) : Result := vec2 (mapHalves minU) vd va vb s

/-- `vminuw`: Vector Minimum Unsigned Word (rule R149). -/
def execVminuw (vd va vb : Reg) (s : State) : Result := vec2 (mapWords minU) vd va vb s

/-- `vminsb`: Vector Minimum Signed Byte (rule R150). -/
def execVminsb (vd va vb : Reg) (s : State) : Result := vec2 (mapBytes minS) vd va vb s

/-- `vminsh`: Vector Minimum Signed Half Word (rule R151). -/
def execVminsh (vd va vb : Reg) (s : State) : Result := vec2 (mapHalves minS) vd va vb s

/-- `vminsw`: Vector Minimum Signed Word (rule R152). -/
def execVminsw (vd va vb : Reg) (s : State) : Result := vec2 (mapWords minS) vd va vb s

end Sys2Proof.Machine
end

