-- ==== Sys2Proof/Machine/IntMulSum.lean ====
section
/-! DEFINITION. Integer multiply, multiply-add, multiply-sum and sum across (41_integer_multiply_sum.md rules R170 to
R192). -/

namespace Sys2Proof.Machine

open Sys2Proof

/-- The product of two unsigned elements in twice the width. -/
def mulU {n : Nat} (m : Nat) (x y : BitVec n) : BitVec m := BitVec.ofNat m (x.toNat * y.toNat)

/-- The product of two signed elements in twice the width. -/
def mulS {n : Nat} (m : Nat) (x y : BitVec n) : BitVec m := BitVec.ofInt m (x.toInt * y.toInt)

/-- The products of the byte elements `2 i + odd`, as half-words: even elements are the lower-numbered of each pair. -/
def mulBytes (f : Byte → Byte → Half) (odd : Nat) (a b : Vec) : Vec :=
  ofHalves fun i => f (byte a (2 * i + odd)) (byte b (2 * i + odd))

/-- The products of the half-word elements `2 i + odd`, as words. -/
def mulHalves (f : Half → Half → Word) (odd : Nat) (a b : Vec) : Vec :=
  ofWords fun i => f (half a (2 * i + odd)) (half b (2 * i + odd))

/-- `sum over j in 0 … k - 1 of f(j)`, exact. -/
def sumTo : Nat → (Nat → Int) → Int
  | 0, _ => 0
  | k + 1, f => sumTo k f + f k

/-- One element of `vmhaddshs` and `vmhraddshs`: `sat_s(16, floor((a * b + round) / 2^15) + c)` (rules R179, R180). -/
def mulHighAdd (round : Int) (x y z : Half) : Half × Bool :=
  satS 16 ((x.toInt * y.toInt + round) / 2 ^ 15 + z.toInt)

/-- The exact multiply-sum of word position `i` with the addend `c`, over the four byte products (rules R182, R183). -/
def byteSum (fa fb : Byte → Int) (a b : Vec) (c : Int) (i : Nat) : Int :=
  c + sumTo 4 fun j => fa (byte a (4 * i + j)) * fb (byte b (4 * i + j))

/-- The exact multiply-sum of word position `i` with the addend `c`, over the two half-word products (rules R184 to
R187). -/
def halfSum (f : Half → Int) (a b : Vec) (c : Int) (i : Nat) : Int :=
  c + sumTo 2 fun j => f (half a (2 * i + j)) * f (half b (2 * i + j))

/-- `uint` of an element. -/
def uint {n : Nat} (x : BitVec n) : Int := x.toNat

/-- `sint` of an element. -/
def sint {n : Nat} (x : BitVec n) : Int := x.toInt

/-- `vsumsws`: the five-term sum in word 3, the other words zero (rule R188). -/
def sumAcross (a b : Vec) : Vec × Bool :=
  let r := satS 32 (sint (word b 3) + sumTo 4 fun j => sint (word a j))
  (ofWords fun i => if i = 3 then r.1 else 0, r.2)

/-- `vsum2sws`: the three-term sums in words 1 and 3, the other words zero (rule R189). -/
def sumHalf (a b : Vec) : Vec × Bool :=
  buildSat 32 4 fun i =>
    if i % 2 = 1 then satS 32 (sint (word b i) + sint (word a (i - 1)) + sint (word a i)) else (0, false)


/-- `vmuleub`: Vector Multiply Even Unsigned Byte (rule R171). -/
def execVmuleub (vd va vb : Reg) (s : State) : Result := vec2 (mulBytes (mulU 16) 0) vd va vb s

/-- `vmuleuh`: Vector Multiply Even Unsigned Half Word (rule R172). -/
def execVmuleuh (vd va vb : Reg) (s : State) : Result := vec2 (mulHalves (mulU 32) 0) vd va vb s

/-- `vmulesb`: Vector Multiply Even Signed Byte (rule R173). -/
def execVmulesb (vd va vb : Reg) (s : State) : Result := vec2 (mulBytes (mulS 16) 0) vd va vb s

/-- `vmulesh`: Vector Multiply Even Signed Half Word (rule R174). -/
def execVmulesh (vd va vb : Reg) (s : State) : Result := vec2 (mulHalves (mulS 32) 0) vd va vb s

/-- `vmuloub`: Vector Multiply Odd Unsigned Byte (rule R175). -/
def execVmuloub (vd va vb : Reg) (s : State) : Result := vec2 (mulBytes (mulU 16) 1) vd va vb s

/-- `vmulouh`: Vector Multiply Odd Unsigned Half Word (rule R176). -/
def execVmulouh (vd va vb : Reg) (s : State) : Result := vec2 (mulHalves (mulU 32) 1) vd va vb s

/-- `vmulosb`: Vector Multiply Odd Signed Byte (rule R177). -/
def execVmulosb (vd va vb : Reg) (s : State) : Result := vec2 (mulBytes (mulS 16) 1) vd va vb s

/-- `vmulosh`: Vector Multiply Odd Signed Half Word (rule R178). -/
def execVmulosh (vd va vb : Reg) (s : State) : Result := vec2 (mulHalves (mulS 32) 1) vd va vb s

/-- `vmhaddshs`: Vector Multiply High and Add Signed Half Word Saturate (rule R179). -/
def execVmhaddshs (vd va vb vc : Reg) (s : State) : Result :=
  vec3Sat (fun a b c => buildSat 16 8 fun i => mulHighAdd 0 (half a i) (half b i) (half c i)) vd va vb vc s

/-- `vmhraddshs`: Vector Multiply High Round and Add Signed Half Word Saturate (rule R180). -/
def execVmhraddshs (vd va vb vc : Reg) (s : State) : Result :=
  vec3Sat (fun a b c => buildSat 16 8 fun i => mulHighAdd 0x4000 (half a i) (half b i) (half c i)) vd va vb vc s

/-- `vmladduhm`: Vector Multiply Low and Add Unsigned Half Word Modulo (rule R181). -/
def execVmladduhm (vd va vb vc : Reg) (s : State) : Result :=
  vec3 (fun a b c => ofHalves fun i => half a i * half b i + half c i) vd va vb vc s

/-- `vmsumubm`: Vector Multiply Sum Unsigned Byte Modulo (rule R182). -/
def execVmsumubm (vd va vb vc : Reg) (s : State) : Result :=
  vec3 (fun a b c => ofWords fun i => BitVec.ofInt 32 (byteSum uint uint a b (uint (word c i)) i)) vd va vb vc s

/-- `vmsummbm`: Vector Multiply Sum Mixed-Sign Byte Modulo (rule R183). -/
def execVmsummbm (vd va vb vc : Reg) (s : State) : Result :=
  vec3 (fun a b c => ofWords fun i => BitVec.ofInt 32 (byteSum sint uint a b (sint (word c i)) i)) vd va vb vc s

/-- `vmsumuhm`: Vector Multiply Sum Unsigned Half Word Modulo (rule R184). -/
def execVmsumuhm (vd va vb vc : Reg) (s : State) : Result :=
  vec3 (fun a b c => ofWords fun i => BitVec.ofInt 32 (halfSum uint a b (uint (word c i)) i)) vd va vb vc s

/-- `vmsumuhs`: Vector Multiply Sum Unsigned Half Word Saturate (rule R185). -/
def execVmsumuhs (vd va vb vc : Reg) (s : State) : Result :=
  vec3Sat (fun a b c => buildSat 32 4 fun i => satU 32 (halfSum uint a b (uint (word c i)) i)) vd va vb vc s

/-- `vmsumshm`: Vector Multiply Sum Signed Half Word Modulo (rule R186). -/
def execVmsumshm (vd va vb vc : Reg) (s : State) : Result :=
  vec3 (fun a b c => ofWords fun i => BitVec.ofInt 32 (halfSum sint a b (sint (word c i)) i)) vd va vb vc s

/-- `vmsumshs`: Vector Multiply Sum Signed Half Word Saturate (rule R187). -/
def execVmsumshs (vd va vb vc : Reg) (s : State) : Result :=
  vec3Sat (fun a b c => buildSat 32 4 fun i => satS 32 (halfSum sint a b (sint (word c i)) i)) vd va vb vc s

/-- `vsumsws`: Vector Sum Across Signed Word Saturate (rule R188). -/
def execVsumsws (vd va vb : Reg) (s : State) : Result := vec2Sat sumAcross vd va vb s

/-- `vsum2sws`: Vector Sum Across Partial (rule R189). -/
def execVsum2sws (vd va vb : Reg) (s : State) : Result := vec2Sat sumHalf vd va vb s

/-- `vsum4ubs`: Vector Sum Across Partial (rule R190). -/
def execVsum4ubs (vd va vb : Reg) (s : State) : Result :=
  vec2Sat (fun a b => buildSat 32 4 fun i => satU 32 (uint (word b i) + sumTo 4 fun j => uint (byte a (4 * i + j)))) vd va vb s

/-- `vsum4sbs`: Vector Sum Across Partial (rule R191). -/
def execVsum4sbs (vd va vb : Reg) (s : State) : Result :=
  vec2Sat (fun a b => buildSat 32 4 fun i => satS 32 (sint (word b i) + sumTo 4 fun j => sint (byte a (4 * i + j)))) vd va vb s

/-- `vsum4shs`: Vector Sum Across Partial (rule R192). -/
def execVsum4shs (vd va vb : Reg) (s : State) : Result :=
  vec2Sat (fun a b => buildSat 32 4 fun i => satS 32 (sint (word b i) + sumTo 2 fun j => sint (half a (2 * i + j)))) vd va vb s

end Sys2Proof.Machine
end

