-- ==== Sys2Proof/Machine/LoadStore.lean ====
section
/-! DEFINITION. Element, whole-vector and external-PID loads and stores
(44_load_store.md rules R290 to R314). -/

namespace Sys2Proof.Machine

open Sys2Proof

/-- An element load from the effective address `a`: `put` places what is read at the real address in the register
(rules R290, R291, R296). On a storage interrupt nothing is written. -/
def loadElem (s : State) (vd : Reg) (a : DWord) (t : State) (put : DWord → Vec) : Result :=
  requireSpv s (access s a .load s.normalCtx false s fun real => complete t vd (put real))

/-- An external-PID instruction: it exists with category E.PD only, and tests privilege before MSR[SPV]
(rules R102, R302, R461, D28). -/
def externalPid (name : String) (s : State) (r : Result) : Result :=
  if s.cfg.hasEPD then requireSupervisor s (requireSpv s r) else orBase s (.categoryAbsent name)

/-- The element number in GPR[rB]: its four low-order bits over the element size 2^k (rule R296). -/
def State.elemOfRb (s : State) (rb : Reg) (k : Nat) : Nat := low4 (s.gpr rb) / 2 ^ k

/-- An element store of the `2 ^ k` bytes of `v` from byte `eb` on, to the effective address `a` (rules R290, R291,
R296). -/
def storeElem (s : State) (a : DWord) (k : Nat) (v : Vec) (eb : Nat) : Result :=
  requireSpv s (storeBytes s a (2 ^ k) fun i => byte v (eb + i))


/-- `lvebx`: Load Vector Element Byte Indexed (rule R292), the rest of vD undefined. -/
def execLvebx (vd ra rb : Reg) (s : State) : Result :=
  let a := s.ea ra rb
  loadElem s vd a (s.drawn 1) fun real => setByte s.undefVec (low4 a) (s.byteAt real 0)

/-- `lvexbx`: Load Vector Element Indexed Byte Indexed (rule R298), the rest of vD zero. -/
def execLvexbx (vd ra rb : Reg) (s : State) : Result :=
  loadElem s vd (s.ea ra rb) s fun real => setByte 0 (s.elemOfRb rb 0) (s.byteAt real 0)

/-- `stvebx`: Store Vector Element Byte Indexed (rule R305). -/
def execStvebx (vs ra rb : Reg) (s : State) : Result :=
  let a := s.ea ra rb
  storeElem s a 0 (s.vr vs) (low4 a)

/-- `stvexbx`: Store Vector Element Indexed Byte Indexed (rule R310). -/
def execStvexbx (vs ra rb : Reg) (s : State) : Result :=
  storeElem s (s.ea ra rb) 0 (s.vr vs) (1 * s.elemOfRb rb 0)

/-- `lvehx`: Load Vector Element Half Word Indexed (rule R293), the rest of vD undefined. -/
def execLvehx (vd ra rb : Reg) (s : State) : Result :=
  let a := alignDown 1 (s.ea ra rb)
  loadElem s vd a (s.drawn 1) fun real => setHalf s.undefVec (low4 a / 2) (s.readHalf real)

/-- `lvexhx`: Load Vector Element Indexed Half Word Indexed (rule R299), the rest of vD zero. -/
def execLvexhx (vd ra rb : Reg) (s : State) : Result :=
  loadElem s vd (alignDown 1 (s.ea ra rb)) s fun real => setHalf 0 (s.elemOfRb rb 1) (s.readHalf real)

/-- `stvehx`: Store Vector Element Half Word Indexed (rule R306). -/
def execStvehx (vs ra rb : Reg) (s : State) : Result :=
  let a := alignDown 1 (s.ea ra rb)
  storeElem s a 1 (s.vr vs) (low4 a)

/-- `stvexhx`: Store Vector Element Indexed Half Word Indexed (rule R311). -/
def execStvexhx (vs ra rb : Reg) (s : State) : Result :=
  storeElem s (alignDown 1 (s.ea ra rb)) 1 (s.vr vs) (2 * s.elemOfRb rb 1)

/-- `lvewx`: Load Vector Element Word Indexed (rule R294), the rest of vD undefined. -/
def execLvewx (vd ra rb : Reg) (s : State) : Result :=
  let a := alignDown 2 (s.ea ra rb)
  loadElem s vd a (s.drawn 1) fun real => setWord s.undefVec (low4 a / 4) (s.readWord real)

/-- `lvexwx`: Load Vector Element Indexed Word Indexed (rule R300), the rest of vD zero. -/
def execLvexwx (vd ra rb : Reg) (s : State) : Result :=
  loadElem s vd (alignDown 2 (s.ea ra rb)) s fun real => setWord 0 (s.elemOfRb rb 2) (s.readWord real)

/-- `stvewx`: Store Vector Element Word Indexed (rule R307). -/
def execStvewx (vs ra rb : Reg) (s : State) : Result :=
  let a := alignDown 2 (s.ea ra rb)
  storeElem s a 2 (s.vr vs) (low4 a)

/-- `stvexwx`: Store Vector Element Indexed Word Indexed (rule R312). -/
def execStvexwx (vs ra rb : Reg) (s : State) : Result :=
  storeElem s (alignDown 2 (s.ea ra rb)) 2 (s.vr vs) (4 * s.elemOfRb rb 2)

/-- `lvx`: Load Vector Indexed (rule R295). -/
def execLvx (vd ra rb : Reg) (s : State) : Result :=
  requireSpv s (loadQuad s vd ra rb s.normalCtx false)

/-- `lvxl`: Load Vector Indexed LRU (rule R297). -/
def execLvxl (vd ra rb : Reg) (s : State) : Result :=
  requireSpv s (loadQuad s vd ra rb s.normalCtx false)

/-- `stvx`: Store Vector Indexed (rule R308). -/
def execStvx (vs ra rb : Reg) (s : State) : Result :=
  requireSpv s (storeQuad s vs ra rb s.normalCtx false)

/-- `stvxl`: Store Vector Indexed LRU (rule R309). -/
def execStvxl (vs ra rb : Reg) (s : State) : Result :=
  requireSpv s (storeQuad s vs ra rb s.normalCtx false)

/-- `lvepx`: Load Vector by External PID Indexed (rule R303). -/
def execLvepx (vd ra rb : Reg) (s : State) : Result :=
  externalPid "lvepx" s (loadQuad s vd ra rb (s.externalCtx s.eplc) true)

/-- `lvepxl`: Load Vector by External PID Indexed LRU (rule R304). -/
def execLvepxl (vd ra rb : Reg) (s : State) : Result :=
  externalPid "lvepxl" s (loadQuad s vd ra rb (s.externalCtx s.eplc) true)

/-- `stvepx`: Store Vector by External PID Indexed (rule R313). -/
def execStvepx (vs ra rb : Reg) (s : State) : Result :=
  externalPid "stvepx" s (storeQuad s vs ra rb (s.externalCtx s.epsc) true)

/-- `stvepxl`: Store Vector by External PID Indexed LRU (rule R314). -/
def execStvepxl (vs ra rb : Reg) (s : State) : Result :=
  externalPid "stvepxl" s (storeQuad s vs ra rb (s.externalCtx s.epsc) true)

end Sys2Proof.Machine
end

