-- ==== Sys2Proof/Machine/PartialVector.lean ====
section
/-! DEFINITION. The partial-vector loads and stores and the three instructions that only compute from an address
(45_load_store_misaligned.md rules R325 to R342). -/

namespace Sys2Proof.Machine

open Sys2Proof

/-- The address instructions: the result depends on the four low-order bits of EA alone, and memory is not accessed
(rules R334 to R336). -/
def fromEa (f : Nat → Vec) (vd ra rb : Reg) (s : State) : Result := requireSpv s (complete s vd (f (low4 (s.ea ra rb))))

/-- Load to left: the 16 - p bytes from EA to the vector end, left-justified, zeros after them (rules R325 to R327). -/
def loadLeft (vd ra rb : Reg) (s : State) : Result :=
  let ea := s.ea ra rb
  let p := low4 ea
  requireSpv s (access s ea .load s.normalCtx false s fun real =>
    orAlignment s ea .load (complete s vd (ofBytes fun i => if i < 16 - p then s.byteAt real i else 0)))

/-- Load to right: the p bytes from the vector start up to EA, right-justified, zeros before them; with p = 0 the address
is checked, nothing is read and vD becomes 0 (rules R325, R326, R329, R330). -/
def loadRight (vd ra rb : Reg) (s : State) : Result :=
  let ea := s.ea ra rb
  let p := low4 ea
  requireSpv s (access s (alignDown 4 ea) .load s.normalCtx false s fun real =>
    orAlignment s ea .load (complete s vd (ofBytes fun i => if 16 - p ≤ i then s.byteAt real (i - (16 - p)) else 0)))

/-- Load with swap: the quad word rotated left by p bytes (rules R325, R326, R332). -/
def loadSwap (vd ra rb : Reg) (s : State) : Result :=
  let ea := s.ea ra rb
  let p := low4 ea
  requireSpv s (access s (alignDown 4 ea) .load s.normalCtx false s fun real =>
    complete s vd (ofBytes fun i => s.byteAt real ((i + p) % 16)))

/-- Store from left: bytes 0 to 15 - p of vS to EA up to the vector end (rules R325, R326, R337). -/
def storeLeft (vs ra rb : Reg) (s : State) : Result :=
  let ea := s.ea ra rb
  let p := low4 ea
  requireSpv s (access s ea .store s.normalCtx false s fun real =>
    orAlignment s ea .store (.next (s.writeBytes real (16 - p) (byte (s.vr vs))).advance))

/-- Store from right: bytes 16 - p to 15 of vS to the vector start up to EA; with p = 0 the address is checked and nothing
is written (rules R325, R326, R329, R339). -/
def storeRight (vs ra rb : Reg) (s : State) : Result :=
  let ea := s.ea ra rb
  let p := low4 ea
  requireSpv s (access s (alignDown 4 ea) .store s.normalCtx false s fun real =>
    orAlignment s ea .store (.next (s.writeBytes real p fun j => byte (s.vr vs) (16 - p + j)).advance))

/-- Store with swap: vS rotated right by p bytes to the quad word (rules R325, R326, R341). -/
def storeSwap (vs ra rb : Reg) (s : State) : Result :=
  let ea := s.ea ra rb
  let p := low4 ea
  requireSpv s (access s (alignDown 4 ea) .store s.normalCtx false s fun real =>
    .next (s.writeBytes real 16 fun k => byte (s.vr vs) ((k + (16 - p)) % 16)).advance)


/-- `lvtlx`: Load Vector to Left Indexed (rule R327). -/
def execLvtlx (vd ra rb : Reg) (s : State) : Result := loadLeft vd ra rb s

/-- `lvtlxl`: Load Vector to Left Indexed LRU (rule R328). -/
def execLvtlxl (vd ra rb : Reg) (s : State) : Result := loadLeft vd ra rb s

/-- `lvtrx`: Load Vector to Right Indexed (rule R330). -/
def execLvtrx (vd ra rb : Reg) (s : State) : Result := loadRight vd ra rb s

/-- `lvtrxl`: Load Vector to Right Indexed LRU (rule R331). -/
def execLvtrxl (vd ra rb : Reg) (s : State) : Result := loadRight vd ra rb s

/-- `lvswx`: Load Vector with Left-Right Swap Indexed (rule R332). -/
def execLvswx (vd ra rb : Reg) (s : State) : Result := loadSwap vd ra rb s

/-- `lvswxl`: Load Vector with Left-Right Swap Indexed LRU (rule R333). -/
def execLvswxl (vd ra rb : Reg) (s : State) : Result := loadSwap vd ra rb s

/-- `stvflx`: Store Vector from Left Indexed (rule R337). -/
def execStvflx (vs ra rb : Reg) (s : State) : Result := storeLeft vs ra rb s

/-- `stvflxl`: Store Vector from Left Indexed LRU (rule R338). -/
def execStvflxl (vs ra rb : Reg) (s : State) : Result := storeLeft vs ra rb s

/-- `stvfrx`: Store Vector from Right Indexed (rule R339). -/
def execStvfrx (vs ra rb : Reg) (s : State) : Result := storeRight vs ra rb s

/-- `stvfrxl`: Store Vector from Right Indexed LRU (rule R340). -/
def execStvfrxl (vs ra rb : Reg) (s : State) : Result := storeRight vs ra rb s

/-- `stvswx`: Store Vector with Left-Right Swap Indexed (rule R341). -/
def execStvswx (vs ra rb : Reg) (s : State) : Result := storeSwap vs ra rb s

/-- `stvswxl`: Store Vector with Left-Right Swap Indexed LRU (rule R342). -/
def execStvswxl (vs ra rb : Reg) (s : State) : Result := storeSwap vs ra rb s

/-- `lvsl`: Load Vector for Shift Left (rule R335). -/
def execLvsl (vd ra rb : Reg) (s : State) : Result :=
  fromEa (fun sh => ofBytes fun i => BitVec.ofNat 8 (sh + i)) vd ra rb s

/-- `lvsr`: Load Vector for Shift Right (rule R336). -/
def execLvsr (vd ra rb : Reg) (s : State) : Result :=
  fromEa (fun sh => ofBytes fun i => BitVec.ofNat 8 (16 - sh + i)) vd ra rb s

/-- `lvsm`: Load Vector for Swap Merge (rule R334). -/
def execLvsm (vd ra rb : Reg) (s : State) : Result :=
  fromEa (fun p => ofBytes fun i => if i < 16 - p then 0xFF else 0) vd ra rb s

end Sys2Proof.Machine
end

