-- ==== Sys2Proof/Machine/Permute.lean ====
section
/-! DEFINITION. Pack, unpack, merge, splat, permute, select and whole-register shifts
(46_permute_format.md rules R350 to R384). -/

namespace Sys2Proof.Machine

open Sys2Proof

/-- Half-word element `i` of the 256-bit source `a || b` (rule R350). -/
def halfOf2 (a b : Vec) (i : Nat) : Half := if i < 8 then half a i else half b (i - 8)

/-- Word element `i` of the 256-bit source `a || b` (rule R350). -/
def wordOf2 (a b : Vec) (i : Nat) : Word := if i < 4 then word a i else word b (i - 4)

/-- Byte element `i` of the 256-bit source `a || b` (rules R350, R378). -/
def byteOf2 (a b : Vec) (i : Nat) : Byte := if i < 16 then byte a i else byte b (i - 16)

/-- Pack 16 half-words into bytes with saturation (rules R353, R355, R357). -/
def packHalves (f : Half → Byte × Bool) (a b : Vec) : Vec × Bool := buildSat 8 16 fun i => f (halfOf2 a b i)

/-- Pack 8 words into half-words with saturation (rules R354, R356, R358). -/
def packWords (f : Word → Half × Bool) (a b : Vec) : Vec × Bool := buildSat 16 8 fun i => f (wordOf2 a b i)

/-- A 32-bit pixel as 1/5/5/5: `w[7] || w[8:12] || w[16:20] || w[24:28]` (rule R359). -/
def packPixel (w : Word) : Half :=
  w.extractLsb' 24 1 ++ w.extractLsb' 19 5 ++ w.extractLsb' 11 5 ++ w.extractLsb' 3 5

/-- A 1/5/5/5 pixel as 8/8/8/8: `(8)h[0] || 000 || h[1:5] || 000 || h[6:10] || 000 || h[11:15]` (rule R364). -/
def unpackPixel (h : Half) : Word :=
  (h.extractLsb' 15 1).signExtend 8 ++ (h.extractLsb' 10 5).setWidth 8 ++ (h.extractLsb' 5 5).setWidth 8
    ++ (h.extractLsb' 0 5).setWidth 8

/-- Interleave the byte elements from `from0` on: vA to the even elements, vB to the odd (rules R366, R369). -/
def mergeBytes (from0 : Nat) (a b : Vec) : Vec :=
  ofBytes fun i => if i % 2 = 0 then byte a (from0 + i / 2) else byte b (from0 + i / 2)

/-- The same for half-words (rules R367, R370). -/
def mergeHalves (from0 : Nat) (a b : Vec) : Vec :=
  ofHalves fun i => if i % 2 = 0 then half a (from0 + i / 2) else half b (from0 + i / 2)

/-- The same for words (rules R368, R371). -/
def mergeWords (from0 : Nat) (a b : Vec) : Vec :=
  ofWords fun i => if i % 2 = 0 then word a (from0 + i / 2) else word b (from0 + i / 2)

/-- `vperm`: byte `k` of `a || b` for each `k = c.b[i][3:7]` (rule R378). -/
def permute (a b c : Vec) : Vec := ofBytes fun i => byteOf2 a b ((byte c i).toNat % 32)

/-- `vsel`: the bits of `b` where `c` is 1, of `a` where it is 0 (rule R379). -/
def select (a b c : Vec) : Vec := (a &&& ~~~c) ||| (b &&& c)

/-- Are the three low-order bits of all 16 bytes the same (rules R380, R381)? -/
def sameCounts (b : Vec) : Bool := (List.range 16).all fun i => (byte b i).toNat % 8 == b.toNat % 8

/-- `vsl` and `vsr`: the shift where the counts agree; else vD becomes undefined (rules R380, R381). -/
def bitShift (f : Vec → Nat → Vec) (vd va vb : Reg) (s : State) : Result :=
  requireSpv s
    (if sameCounts (s.vr vb) then complete s vd (f (s.vr va) ((s.vr vb).toNat % 8))
     else complete (s.drawn 1) vd s.undefVec)

/-- The octet count `b[121:124]` (rules R382, R383). -/
def octets (b : Vec) : Nat := b.toNat / 8 % 16

/-- An immediate splat: the 5-bit SIMM, sign-extended (rules R375 to R377). -/
def splatImm (v : Vec) (vd : Reg) (s : State) : Result := requireSpv s (complete s vd v)


/-- `vpkuhum`: Vector Pack Unsigned Half Word Unsigned Modulo (rule R351). -/
def execVpkuhum (vd va vb : Reg) (s : State) : Result :=
  vec2 (fun a b => ofBytes fun i => (halfOf2 a b i).setWidth 8) vd va vb s

/-- `vpkuwum`: Vector Pack Unsigned Word Unsigned Modulo (rule R352). -/
def execVpkuwum (vd va vb : Reg) (s : State) : Result :=
  vec2 (fun a b => ofHalves fun i => (wordOf2 a b i).setWidth 16) vd va vb s

/-- `vpkuhus`: Vector Pack Unsigned Half Word Unsigned Saturate (rule R353). -/
def execVpkuhus (vd va vb : Reg) (s : State) : Result := vec2Sat (packHalves fun h => satU 8 h.toNat) vd va vb s

/-- `vpkuwus`: Vector Pack Unsigned Word Unsigned Saturate (rule R354). -/
def execVpkuwus (vd va vb : Reg) (s : State) : Result := vec2Sat (packWords fun w => satU 16 w.toNat) vd va vb s

/-- `vpkshus`: Vector Pack Signed Half Word Unsigned Saturate (rule R355). -/
def execVpkshus (vd va vb : Reg) (s : State) : Result := vec2Sat (packHalves fun h => satU 8 h.toInt) vd va vb s

/-- `vpkswus`: Vector Pack Signed Word Unsigned Saturate (rule R356). -/
def execVpkswus (vd va vb : Reg) (s : State) : Result := vec2Sat (packWords fun w => satU 16 w.toInt) vd va vb s

/-- `vpkshss`: Vector Pack Signed Half Word Signed Saturate (rule R357). -/
def execVpkshss (vd va vb : Reg) (s : State) : Result := vec2Sat (packHalves fun h => satS 8 h.toInt) vd va vb s

/-- `vpkswss`: Vector Pack Signed Word Signed Saturate (rule R358). -/
def execVpkswss (vd va vb : Reg) (s : State) : Result := vec2Sat (packWords fun w => satS 16 w.toInt) vd va vb s

/-- `vpkpx`: Vector Pack Pixel (rule R359). -/
def execVpkpx (vd va vb : Reg) (s : State) : Result :=
  vec2 (fun a b => ofHalves fun i => packPixel (wordOf2 a b i)) vd va vb s

/-- `vupkhsb`: Vector Unpack High Signed Byte (rule R360). -/
def execVupkhsb (vd vb : Reg) (s : State) : Result :=
  vec1 (fun b => ofHalves fun i => (byte b i).signExtend 16) vd vb s

/-- `vupkhsh`: Vector Unpack High Signed Half Word (rule R361). -/
def execVupkhsh (vd vb : Reg) (s : State) : Result :=
  vec1 (fun b => ofWords fun i => (half b i).signExtend 32) vd vb s

/-- `vupklsb`: Vector Unpack Low Signed Byte (rule R362). -/
def execVupklsb (vd vb : Reg) (s : State) : Result :=
  vec1 (fun b => ofHalves fun i => (byte b (i + 8)).signExtend 16) vd vb s

/-- `vupklsh`: Vector Unpack Low Signed Half Word (rule R363). -/
def execVupklsh (vd vb : Reg) (s : State) : Result :=
  vec1 (fun b => ofWords fun i => (half b (i + 4)).signExtend 32) vd vb s

/-- `vupkhpx`: Vector Unpack High Pixel (rule R364). -/
def execVupkhpx (vd vb : Reg) (s : State) : Result := vec1 (fun b => ofWords fun i => unpackPixel (half b i)) vd vb s

/-- `vupklpx`: Vector Unpack Low Pixel (rule R365). -/
def execVupklpx (vd vb : Reg) (s : State) : Result :=
  vec1 (fun b => ofWords fun i => unpackPixel (half b (i + 4))) vd vb s

/-- `vmrghb`: Vector Merge High Byte (rule R366). -/
def execVmrghb (vd va vb : Reg) (s : State) : Result := vec2 (mergeBytes 0) vd va vb s

/-- `vmrglb`: Vector Merge Low Byte (rule R369). -/
def execVmrglb (vd va vb : Reg) (s : State) : Result := vec2 (mergeBytes 8) vd va vb s

/-- `vmrghh`: Vector Merge High Half Word (rule R367). -/
def execVmrghh (vd va vb : Reg) (s : State) : Result := vec2 (mergeHalves 0) vd va vb s

/-- `vmrglh`: Vector Merge Low Half Word (rule R370). -/
def execVmrglh (vd va vb : Reg) (s : State) : Result := vec2 (mergeHalves 4) vd va vb s

/-- `vmrghw`: Vector Merge High Word (rule R368). -/
def execVmrghw (vd va vb : Reg) (s : State) : Result := vec2 (mergeWords 0) vd va vb s

/-- `vmrglw`: Vector Merge Low Word (rule R371). -/
def execVmrglw (vd va vb : Reg) (s : State) : Result := vec2 (mergeWords 2) vd va vb s

/-- `vspltb`: Vector Splat Byte (rule R372). -/
def execVspltb (vd vb : Reg) (uimm : BitVec 4) (s : State) : Result :=
  vec1 (fun b => ofBytes fun _ => byte b uimm.toNat) vd vb s

/-- `vsplth`: Vector Splat Half Word (rule R373). -/
def execVsplth (vd vb : Reg) (uimm : BitVec 3) (s : State) : Result :=
  vec1 (fun b => ofHalves fun _ => half b uimm.toNat) vd vb s

/-- `vspltw`: Vector Splat Word (rule R374). -/
def execVspltw (vd vb : Reg) (uimm : BitVec 2) (s : State) : Result :=
  vec1 (fun b => ofWords fun _ => word b uimm.toNat) vd vb s

/-- `vspltisb`: Vector Splat Immediate Signed Byte (rule R375). -/
def execVspltisb (vd : Reg) (simm : BitVec 5) (s : State) : Result :=
  splatImm (ofBytes fun _ => simm.signExtend 8) vd s

/-- `vspltish`: Vector Splat Immediate Signed Half Word (rule R376). -/
def execVspltish (vd : Reg) (simm : BitVec 5) (s : State) : Result :=
  splatImm (ofHalves fun _ => simm.signExtend 16) vd s

/-- `vspltisw`: Vector Splat Immediate Signed Word (rule R377). -/
def execVspltisw (vd : Reg) (simm : BitVec 5) (s : State) : Result :=
  splatImm (ofWords fun _ => simm.signExtend 32) vd s

/-- `vperm`: Vector Permute (rule R378). -/
def execVperm (vd va vb vc : Reg) (s : State) : Result := vec3 permute vd va vb vc s

/-- `vsel`: Vector Conditional Select (rule R379). -/
def execVsel (vd va vb vc : Reg) (s : State) : Result := vec3 select vd va vb vc s

/-- `vsl`: Vector Shift Left (rule R380). -/
def execVsl (vd va vb : Reg) (s : State) : Result := bitShift (fun a n => a <<< n) vd va vb s

/-- `vsr`: Vector Shift Right (rule R381). -/
def execVsr (vd va vb : Reg) (s : State) : Result := bitShift (fun a n => a >>> n) vd va vb s

/-- `vslo`: Vector Shift Left by Octet (rule R382). -/
def execVslo (vd va vb : Reg) (s : State) : Result := vec2 (fun a b => a <<< (8 * octets b)) vd va vb s

/-- `vsro`: Vector Shift Right by Octet (rule R383). -/
def execVsro (vd va vb : Reg) (s : State) : Result := vec2 (fun a b => a >>> (8 * octets b)) vd va vb s

/-- `vsldoi`: Vector Shift Left Double by Octet Immediate (rule R384). -/
def execVsldoi (vd va vb : Reg) (shb : BitVec 4) (s : State) : Result :=
  vec2 (fun a b => ofBytes fun i => byteOf2 a b (shb.toNat + i)) vd va vb s

end Sys2Proof.Machine
end

