-- ==== Sys2Proof/Machine/VscrMoveStream.lean ====
section
/-! DEFINITION. Moves of the VSCR, moves from integer registers, and the data stream no-operations
(47_vscr_move_stream.md rules R400 to R413). -/

namespace Sys2Proof.Machine

open Sys2Proof

/-- The reserved bits of the VSCR: all but NJ and SAT (rule R28). -/
def vscrReserved : Word := 0xFFFEFFFE

/-- What the VSCR reads as: NJ and SAT, and each reserved bit 0 where 0 was last written to it, else a free value
(rule R28). -/
def State.vscrRead (s : State) : Word :=
  if s.vscr &&& vscrReserved = 0 then s.vscr
  else (s.vscr &&& ~~~vscrReserved) ||| (s.vscr &&& vscrReserved &&& Config.freeReserved s.freeCtr)

/-- How many free values that read draws. -/
def State.vscrDraws (s : State) : Nat := if s.vscr &&& vscrReserved = 0 then 0 else 1

/-- A data stream instruction: `pc <- pc + 4` and nothing else, whatever MSR[SPV] is (rule R407). -/
def streamNop (s : State) : Result := .next s.advance


/-- `mfvscr`: Move from Vector Status and Control Register (rule R400). -/
def execMfvscr (vd : Reg) (s : State) : Result :=
  requireSpv s (complete (s.drawn s.vscrDraws) vd (0#96 ++ s.vscrRead))

/-- `mtvscr`: Move to Vector Status and Control Register (rule R401). -/
def execMtvscr (vb : Reg) (s : State) : Result :=
  requireSpv s (.next { s with vscr := (s.vr vb).setWidth 32 }.advance)

/-- `mvidsplt`: Move to Vector from Integer Double Word and Splat (rule R403): the whole 64-bit registers, on a 64-bit implementation only. -/
def execMvidsplt (vd ra rb : Reg) (s : State) : Result :=
  if s.cfg.impl64 then requireSpv s (complete s vd (s.gpr ra ++ s.gpr rb)) else orBase s (.categoryAbsent "mvidsplt")

/-- `mviwsplt`: Move to Vector from Integer Word and Splat (rule R404): the low words of the two registers, twice. -/
def execMviwsplt (vd ra rb : Reg) (s : State) : Result :=
  let t : DWord := (s.gpr ra).setWidth 32 ++ (s.gpr rb).setWidth 32
  requireSpv s (complete s vd (t ++ t))

/-- `dss`: Data Stream Stop (rule R408). -/
def execDss (_strm : BitVec 2) (s : State) : Result := streamNop s

/-- `dssall`: Data Stream Stop (all streams) (rule R409). -/
def execDssall (_strm : BitVec 2) (s : State) : Result := streamNop s

/-- `dst`: Data Stream Touch (rule R410). -/
def execDst (_strm : BitVec 2) (_ra _rb : Reg) (s : State) : Result := streamNop s

/-- `dstt`: Data Stream Touch Transient (rule R411). -/
def execDstt (_strm : BitVec 2) (_ra _rb : Reg) (s : State) : Result := streamNop s

/-- `dstst`: Data Stream Touch for Store (rule R412). -/
def execDstst (_strm : BitVec 2) (_ra _rb : Reg) (s : State) : Result := streamNop s

/-- `dststt`: Data Stream Touch for Store Transient (rule R413). -/
def execDststt (_strm : BitVec 2) (_ra _rb : Reg) (s : State) : Result := streamNop s

end Sys2Proof.Machine
end

