-- ==== Sys2Proof/Machine/Dispatch.lean ====
section
/-! DEFINITION. One arm for each instruction: the call of its meaning. -/

namespace Sys2Proof.Machine

open Sys2Proof

def exec (i : Instr) (s : State) : Host.Outcome State Fault Refusal :=
  match i with
  | .lvsl vd ra rb => Sys2Proof.Machine.execLvsl vd ra rb s
  | .lvebx vd ra rb => Sys2Proof.Machine.execLvebx vd ra rb s
  | .lvsr vd ra rb => Sys2Proof.Machine.execLvsr vd ra rb s
  | .lvehx vd ra rb => Sys2Proof.Machine.execLvehx vd ra rb s
  | .mviwsplt vd ra rb => Sys2Proof.Machine.execMviwsplt vd ra rb s
  | .lvewx vd ra rb => Sys2Proof.Machine.execLvewx vd ra rb s
  | .lvx vd ra rb => Sys2Proof.Machine.execLvx vd ra rb s
  | .mvidsplt vd ra rb => Sys2Proof.Machine.execMvidsplt vd ra rb s
  | .stvebx vs ra rb => Sys2Proof.Machine.execStvebx vs ra rb s
  | .stvehx vs ra rb => Sys2Proof.Machine.execStvehx vs ra rb s
  | .stvewx vs ra rb => Sys2Proof.Machine.execStvewx vs ra rb s
  | .stvx vs ra rb => Sys2Proof.Machine.execStvx vs ra rb s
  | .lvexbx vd ra rb => Sys2Proof.Machine.execLvexbx vd ra rb s
  | .lvepxl vd ra rb => Sys2Proof.Machine.execLvepxl vd ra rb s
  | .lvexhx vd ra rb => Sys2Proof.Machine.execLvexhx vd ra rb s
  | .lvepx vd ra rb => Sys2Proof.Machine.execLvepx vd ra rb s
  | .lvexwx vd ra rb => Sys2Proof.Machine.execLvexwx vd ra rb s
  | .lvxl vd ra rb => Sys2Proof.Machine.execLvxl vd ra rb s
  | .stvexbx vs ra rb => Sys2Proof.Machine.execStvexbx vs ra rb s
  | .stvexhx vs ra rb => Sys2Proof.Machine.execStvexhx vs ra rb s
  | .stvexwx vs ra rb => Sys2Proof.Machine.execStvexwx vs ra rb s
  | .stvxl vs ra rb => Sys2Proof.Machine.execStvxl vs ra rb s
  | .lvtrx vd ra rb => Sys2Proof.Machine.execLvtrx vd ra rb s
  | .lvtlx vd ra rb => Sys2Proof.Machine.execLvtlx vd ra rb s
  | .lvswx vd ra rb => Sys2Proof.Machine.execLvswx vd ra rb s
  | .stvfrx vs ra rb => Sys2Proof.Machine.execStvfrx vs ra rb s
  | .stvflx vs ra rb => Sys2Proof.Machine.execStvflx vs ra rb s
  | .stvswx vs ra rb => Sys2Proof.Machine.execStvswx vs ra rb s
  | .lvsm vd ra rb => Sys2Proof.Machine.execLvsm vd ra rb s
  | .stvepxl vs ra rb => Sys2Proof.Machine.execStvepxl vs ra rb s
  | .lvtrxl vd ra rb => Sys2Proof.Machine.execLvtrxl vd ra rb s
  | .stvepx vs ra rb => Sys2Proof.Machine.execStvepx vs ra rb s
  | .lvtlxl vd ra rb => Sys2Proof.Machine.execLvtlxl vd ra rb s
  | .lvswxl vd ra rb => Sys2Proof.Machine.execLvswxl vd ra rb s
  | .stvfrxl vs ra rb => Sys2Proof.Machine.execStvfrxl vs ra rb s
  | .stvflxl vs ra rb => Sys2Proof.Machine.execStvflxl vs ra rb s
  | .stvswxl vs ra rb => Sys2Proof.Machine.execStvswxl vs ra rb s
  | .dst strm ra rb => Sys2Proof.Machine.execDst strm ra rb s
  | .dstt strm ra rb => Sys2Proof.Machine.execDstt strm ra rb s
  | .dstst strm ra rb => Sys2Proof.Machine.execDstst strm ra rb s
  | .dststt strm ra rb => Sys2Proof.Machine.execDststt strm ra rb s
  | .dss strm => Sys2Proof.Machine.execDss strm s
  | .dssall strm => Sys2Proof.Machine.execDssall strm s
  | .vaddubm vd va vb => Sys2Proof.Machine.execVaddubm vd va vb s
  | .vmaxub vd va vb => Sys2Proof.Machine.execVmaxub vd va vb s
  | .vrlb vd va vb => Sys2Proof.Machine.execVrlb vd va vb s
  | .vmuloub vd va vb => Sys2Proof.Machine.execVmuloub vd va vb s
  | .vaddfp vd va vb => Sys2Proof.Machine.execVaddfp vd va vb s
  | .vmrghb vd va vb => Sys2Proof.Machine.execVmrghb vd va vb s
  | .vpkuhum vd va vb => Sys2Proof.Machine.execVpkuhum vd va vb s
  | .vadduhm vd va vb => Sys2Proof.Machine.execVadduhm vd va vb s
  | .vmaxuh vd va vb => Sys2Proof.Machine.execVmaxuh vd va vb s
  | .vrlh vd va vb => Sys2Proof.Machine.execVrlh vd va vb s
  | .vmulouh vd va vb => Sys2Proof.Machine.execVmulouh vd va vb s
  | .vsubfp vd va vb => Sys2Proof.Machine.execVsubfp vd va vb s
  | .vmrghh vd va vb => Sys2Proof.Machine.execVmrghh vd va vb s
  | .vpkuwum vd va vb => Sys2Proof.Machine.execVpkuwum vd va vb s
  | .vadduwm vd va vb => Sys2Proof.Machine.execVadduwm vd va vb s
  | .vmaxuw vd va vb => Sys2Proof.Machine.execVmaxuw vd va vb s
  | .vrlw vd va vb => Sys2Proof.Machine.execVrlw vd va vb s
  | .vmrghw vd va vb => Sys2Proof.Machine.execVmrghw vd va vb s
  | .vpkuhus vd va vb => Sys2Proof.Machine.execVpkuhus vd va vb s
  | .vpkuwus vd va vb => Sys2Proof.Machine.execVpkuwus vd va vb s
  | .vmaxsb vd va vb => Sys2Proof.Machine.execVmaxsb vd va vb s
  | .vslb vd va vb => Sys2Proof.Machine.execVslb vd va vb s
  | .vmulosb vd va vb => Sys2Proof.Machine.execVmulosb vd va vb s
  | .vmrglb vd va vb => Sys2Proof.Machine.execVmrglb vd va vb s
  | .vpkshus vd va vb => Sys2Proof.Machine.execVpkshus vd va vb s
  | .vmaxsh vd va vb => Sys2Proof.Machine.execVmaxsh vd va vb s
  | .vslh vd va vb => Sys2Proof.Machine.execVslh vd va vb s
  | .vmulosh vd va vb => Sys2Proof.Machine.execVmulosh vd va vb s
  | .vmrglh vd va vb => Sys2Proof.Machine.execVmrglh vd va vb s
  | .vpkswus vd va vb => Sys2Proof.Machine.execVpkswus vd va vb s
  | .vaddcuw vd va vb => Sys2Proof.Machine.execVaddcuw vd va vb s
  | .vmaxsw vd va vb => Sys2Proof.Machine.execVmaxsw vd va vb s
  | .vslw vd va vb => Sys2Proof.Machine.execVslw vd va vb s
  | .vmrglw vd va vb => Sys2Proof.Machine.execVmrglw vd va vb s
  | .vpkshss vd va vb => Sys2Proof.Machine.execVpkshss vd va vb s
  | .vsl vd va vb => Sys2Proof.Machine.execVsl vd va vb s
  | .vpkswss vd va vb => Sys2Proof.Machine.execVpkswss vd va vb s
  | .vaddubs vd va vb => Sys2Proof.Machine.execVaddubs vd va vb s
  | .vminub vd va vb => Sys2Proof.Machine.execVminub vd va vb s
  | .vsrb vd va vb => Sys2Proof.Machine.execVsrb vd va vb s
  | .vmuleub vd va vb => Sys2Proof.Machine.execVmuleub vd va vb s
  | .vadduhs vd va vb => Sys2Proof.Machine.execVadduhs vd va vb s
  | .vminuh vd va vb => Sys2Proof.Machine.execVminuh vd va vb s
  | .vsrh vd va vb => Sys2Proof.Machine.execVsrh vd va vb s
  | .vmuleuh vd va vb => Sys2Proof.Machine.execVmuleuh vd va vb s
  | .vadduws vd va vb => Sys2Proof.Machine.execVadduws vd va vb s
  | .vminuw vd va vb => Sys2Proof.Machine.execVminuw vd va vb s
  | .vsrw vd va vb => Sys2Proof.Machine.execVsrw vd va vb s
  | .vsr vd va vb => Sys2Proof.Machine.execVsr vd va vb s
  | .vaddsbs vd va vb => Sys2Proof.Machine.execVaddsbs vd va vb s
  | .vminsb vd va vb => Sys2Proof.Machine.execVminsb vd va vb s
  | .vsrab vd va vb => Sys2Proof.Machine.execVsrab vd va vb s
  | .vmulesb vd va vb => Sys2Proof.Machine.execVmulesb vd va vb s
  | .vpkpx vd va vb => Sys2Proof.Machine.execVpkpx vd va vb s
  | .vaddshs vd va vb => Sys2Proof.Machine.execVaddshs vd va vb s
  | .vminsh vd va vb => Sys2Proof.Machine.execVminsh vd va vb s
  | .vsrah vd va vb => Sys2Proof.Machine.execVsrah vd va vb s
  | .vmulesh vd va vb => Sys2Proof.Machine.execVmulesh vd va vb s
  | .vaddsws vd va vb => Sys2Proof.Machine.execVaddsws vd va vb s
  | .vminsw vd va vb => Sys2Proof.Machine.execVminsw vd va vb s
  | .vsraw vd va vb => Sys2Proof.Machine.execVsraw vd va vb s
  | .vsububm vd va vb => Sys2Proof.Machine.execVsububm vd va vb s
  | .vavgub vd va vb => Sys2Proof.Machine.execVavgub vd va vb s
  | .vabsdub vd va vb => Sys2Proof.Machine.execVabsdub vd va vb s
  | .vand vd va vb => Sys2Proof.Machine.execVand vd va vb s
  | .vmaxfp vd va vb => Sys2Proof.Machine.execVmaxfp vd va vb s
  | .vslo vd va vb => Sys2Proof.Machine.execVslo vd va vb s
  | .vsubuhm vd va vb => Sys2Proof.Machine.execVsubuhm vd va vb s
  | .vavguh vd va vb => Sys2Proof.Machine.execVavguh vd va vb s
  | .vabsduh vd va vb => Sys2Proof.Machine.execVabsduh vd va vb s
  | .vandc vd va vb => Sys2Proof.Machine.execVandc vd va vb s
  | .vminfp vd va vb => Sys2Proof.Machine.execVminfp vd va vb s
  | .vsro vd va vb => Sys2Proof.Machine.execVsro vd va vb s
  | .vsubuwm vd va vb => Sys2Proof.Machine.execVsubuwm vd va vb s
  | .vavguw vd va vb => Sys2Proof.Machine.execVavguw vd va vb s
  | .vabsduw vd va vb => Sys2Proof.Machine.execVabsduw vd va vb s
  | .vor vd va vb => Sys2Proof.Machine.execVor vd va vb s
  | .vxor vd va vb => Sys2Proof.Machine.execVxor vd va vb s
  | .vavgsb vd va vb => Sys2Proof.Machine.execVavgsb vd va vb s
  | .vnor vd va vb => Sys2Proof.Machine.execVnor vd va vb s
  | .vavgsh vd va vb => Sys2Proof.Machine.execVavgsh vd va vb s
  | .vsubcuw vd va vb => Sys2Proof.Machine.execVsubcuw vd va vb s
  | .vavgsw vd va vb => Sys2Proof.Machine.execVavgsw vd va vb s
  | .vsububs vd va vb => Sys2Proof.Machine.execVsububs vd va vb s
  | .vsum4ubs vd va vb => Sys2Proof.Machine.execVsum4ubs vd va vb s
  | .vsubuhs vd va vb => Sys2Proof.Machine.execVsubuhs vd va vb s
  | .vsum4shs vd va vb => Sys2Proof.Machine.execVsum4shs vd va vb s
  | .vsubuws vd va vb => Sys2Proof.Machine.execVsubuws vd va vb s
  | .vsum2sws vd va vb => Sys2Proof.Machine.execVsum2sws vd va vb s
  | .vsubsbs vd va vb => Sys2Proof.Machine.execVsubsbs vd va vb s
  | .vsum4sbs vd va vb => Sys2Proof.Machine.execVsum4sbs vd va vb s
  | .vsubshs vd va vb => Sys2Proof.Machine.execVsubshs vd va vb s
  | .vsubsws vd va vb => Sys2Proof.Machine.execVsubsws vd va vb s
  | .vsumsws vd va vb => Sys2Proof.Machine.execVsumsws vd va vb s
  | .vrefp vd vb => Sys2Proof.Machine.execVrefp vd vb s
  | .vrsqrtefp vd vb => Sys2Proof.Machine.execVrsqrtefp vd vb s
  | .vexptefp vd vb => Sys2Proof.Machine.execVexptefp vd vb s
  | .vlogefp vd vb => Sys2Proof.Machine.execVlogefp vd vb s
  | .vrfin vd vb => Sys2Proof.Machine.execVrfin vd vb s
  | .vrfiz vd vb => Sys2Proof.Machine.execVrfiz vd vb s
  | .vrfip vd vb => Sys2Proof.Machine.execVrfip vd vb s
  | .vrfim vd vb => Sys2Proof.Machine.execVrfim vd vb s
  | .vupkhsb vd vb => Sys2Proof.Machine.execVupkhsb vd vb s
  | .vupkhsh vd vb => Sys2Proof.Machine.execVupkhsh vd vb s
  | .vupklsb vd vb => Sys2Proof.Machine.execVupklsb vd vb s
  | .vupklsh vd vb => Sys2Proof.Machine.execVupklsh vd vb s
  | .vupkhpx vd vb => Sys2Proof.Machine.execVupkhpx vd vb s
  | .vupklpx vd vb => Sys2Proof.Machine.execVupklpx vd vb s
  | .vcfux vd vb uimm => Sys2Proof.Machine.execVcfux vd vb uimm s
  | .vcfsx vd vb uimm => Sys2Proof.Machine.execVcfsx vd vb uimm s
  | .vctuxs vd vb uimm => Sys2Proof.Machine.execVctuxs vd vb uimm s
  | .vctsxs vd vb uimm => Sys2Proof.Machine.execVctsxs vd vb uimm s
  | .vspltb vd vb uimm => Sys2Proof.Machine.execVspltb vd vb uimm s
  | .vsplth vd vb uimm => Sys2Proof.Machine.execVsplth vd vb uimm s
  | .vspltw vd vb uimm => Sys2Proof.Machine.execVspltw vd vb uimm s
  | .vspltisb vd simm => Sys2Proof.Machine.execVspltisb vd simm s
  | .vspltish vd simm => Sys2Proof.Machine.execVspltish vd simm s
  | .vspltisw vd simm => Sys2Proof.Machine.execVspltisw vd simm s
  | .mfvscr vd => Sys2Proof.Machine.execMfvscr vd s
  | .mtvscr vb => Sys2Proof.Machine.execMtvscr vb s
  | .vcmpequb vd va vb rc => Sys2Proof.Machine.execVcmpequb vd va vb rc s
  | .vcmpequh vd va vb rc => Sys2Proof.Machine.execVcmpequh vd va vb rc s
  | .vcmpequw vd va vb rc => Sys2Proof.Machine.execVcmpequw vd va vb rc s
  | .vcmpeqfp vd va vb rc => Sys2Proof.Machine.execVcmpeqfp vd va vb rc s
  | .vcmpgefp vd va vb rc => Sys2Proof.Machine.execVcmpgefp vd va vb rc s
  | .vcmpgtub vd va vb rc => Sys2Proof.Machine.execVcmpgtub vd va vb rc s
  | .vcmpgtuh vd va vb rc => Sys2Proof.Machine.execVcmpgtuh vd va vb rc s
  | .vcmpgtuw vd va vb rc => Sys2Proof.Machine.execVcmpgtuw vd va vb rc s
  | .vcmpgtfp vd va vb rc => Sys2Proof.Machine.execVcmpgtfp vd va vb rc s
  | .vcmpgtsb vd va vb rc => Sys2Proof.Machine.execVcmpgtsb vd va vb rc s
  | .vcmpgtsh vd va vb rc => Sys2Proof.Machine.execVcmpgtsh vd va vb rc s
  | .vcmpgtsw vd va vb rc => Sys2Proof.Machine.execVcmpgtsw vd va vb rc s
  | .vcmpbfp vd va vb rc => Sys2Proof.Machine.execVcmpbfp vd va vb rc s
  | .vmhaddshs vd va vb vc => Sys2Proof.Machine.execVmhaddshs vd va vb vc s
  | .vmhraddshs vd va vb vc => Sys2Proof.Machine.execVmhraddshs vd va vb vc s
  | .vmladduhm vd va vb vc => Sys2Proof.Machine.execVmladduhm vd va vb vc s
  | .vmsumubm vd va vb vc => Sys2Proof.Machine.execVmsumubm vd va vb vc s
  | .vmsummbm vd va vb vc => Sys2Proof.Machine.execVmsummbm vd va vb vc s
  | .vmsumuhm vd va vb vc => Sys2Proof.Machine.execVmsumuhm vd va vb vc s
  | .vmsumuhs vd va vb vc => Sys2Proof.Machine.execVmsumuhs vd va vb vc s
  | .vmsumshm vd va vb vc => Sys2Proof.Machine.execVmsumshm vd va vb vc s
  | .vmsumshs vd va vb vc => Sys2Proof.Machine.execVmsumshs vd va vb vc s
  | .vsel vd va vb vc => Sys2Proof.Machine.execVsel vd va vb vc s
  | .vperm vd va vb vc => Sys2Proof.Machine.execVperm vd va vb vc s
  | .vmaddfp vd va vb vc => Sys2Proof.Machine.execVmaddfp vd va vb vc s
  | .vnmsubfp vd va vb vc => Sys2Proof.Machine.execVnmsubfp vd va vb vc s
  | .vsldoi vd va vb shb => Sys2Proof.Machine.execVsldoi vd va vb shb s
  | .addi rd ra simm => Sys2Proof.Machine.execAddi rd ra simm s
  | .addis rd ra simm => Sys2Proof.Machine.execAddis rd ra simm s
  | .bc bo bi bd => Sys2Proof.Machine.execBc bo bi bd s
  | .b li => Sys2Proof.Machine.execB li s
  | .ori ra rs uimm => Sys2Proof.Machine.execOri ra rs uimm s
  | .srawi ra rs sh => Sys2Proof.Machine.execSrawi ra rs sh s
  | .mfspr rd spr => Sys2Proof.Machine.execMfspr rd spr s
  | .mtspr spr rs => Sys2Proof.Machine.execMtspr spr rs s
  | .rfi => Sys2Proof.Machine.execRfi s

end Sys2Proof.Machine
end

