-- ==== Sys2Proof/Machine/Step.lean ====
section
/-! DEFINITION. One step: fetch the word at the pc, decode it, run it (70_reset_and_hazards.md rule R478). -/

namespace Sys2Proof.Machine

open Sys2Proof

/-- Run the instruction that a fetched word encodes (rules R420, R430). -/
def runWord (s : State) (w : Word) : Result :=
  match decode w with
  | .ok i => exec i s
  | .unallocated x => orBase s (.unallocated x)
  | .truncated => orBase s (.unallocated w)

/-- One step of the machine (rules R80, R478). -/
def step (s : State) : Host.Outcome State Fault Refusal := fetch s (runWord s)

/-- The state with an instruction's bytes stored where `step` fetches: the four bytes at the translation of the pc. -/
def State.withFetchWord (s : State) (nbits w : Nat) : State := placeWord s (wordBytes (w % 2 ^ nbits))

end Sys2Proof.Machine
end

