-- ==== Sys2Proof/Safety.lean ====
section
/-! DEFINITION. The terms in which the statements speak of the machine: the parts of the state an instruction may change,
what taking an interrupt leaves, the forms of a rule, and the invariant of the machine. -/

namespace Sys2Proof.Machine

open Sys2Proof

/-! ### What an instruction leaves unchanged -/

/-- A part of the state that an instruction may change, beside the pc. -/
inductive Part where
  /-- One vector register. -/
  | vr (r : Reg)
  /-- One general register. -/
  | gpr (r : Reg)
  /-- VSCR[SAT]. -/
  | sat
  /-- The 31 bits of the VSCR other than SAT. -/
  | vscr
  /-- The four bits of CR6. -/
  | cr6
  /-- VRSAVE. -/
  | vrsave
  /-- CTR. -/
  | ctr
  /-- LR. -/
  | lr
  /-- XER[CA]. -/
  | xerCA
  /-- The MSR. -/
  | msr
  /-- SRR0. -/
  | srr0
  /-- SRR1. -/
  | srr1
  /-- GSRR0 and GSRR1. -/
  | gsrr
  /-- The ESR. -/
  | esr
  /-- The GESR. -/
  | gesr
  /-- DEAR. -/
  | dear
  /-- IVOR32. -/
  | ivor32
  /-- IVOR33. -/
  | ivor33
  /-- The `n` bytes of memory from the address `a` on. -/
  | bytes (a : DWord) (n : Nat)
  /-- The model's counter of free values. -/
  | draws
  deriving DecidableEq, Repr

/-- Is `b` one of the `n` bytes from `a` on? -/
def within (a : DWord) (n : Nat) (b : DWord) : Prop := ∃ k, k < n ∧ b = a + BitVec.ofNat 64 k

/-- Everything but the parts in `may` and the pc is in `t` as it is in `s`. -/
structure Frame (may : List Part) (s t : State) : Prop where
  vrs : ∀ r, Part.vr r ∉ may → t.vr r = s.vr r
  gprs : ∀ r, Part.gpr r ∉ may → t.gpr r = s.gpr r
  sat : Part.sat ∉ may → t.sat = s.sat
  vscr : Part.vscr ∉ may → ∀ i, i ≠ 0 → t.vscr.getLsbD i = s.vscr.getLsbD i
  cr6 : Part.cr6 ∉ may → t.cr = s.cr
  crOthers : ∀ i : BitVec 5, i.toNat < 24 ∨ 27 < i.toNat → t.crBit i = s.crBit i
  vrsave : Part.vrsave ∉ may → t.vrsave = s.vrsave
  ctr : Part.ctr ∉ may → t.ctr = s.ctr
  lr : Part.lr ∉ may → t.lr = s.lr
  xerCA : Part.xerCA ∉ may → t.xerCA = s.xerCA
  msr : Part.msr ∉ may → t.msr = s.msr
  srr0 : Part.srr0 ∉ may → t.srr0 = s.srr0
  srr1 : Part.srr1 ∉ may → t.srr1 = s.srr1
  gsrr : Part.gsrr ∉ may → t.gsrr0 = s.gsrr0 ∧ t.gsrr1 = s.gsrr1
  esr : Part.esr ∉ may → t.esr = s.esr
  gesr : Part.gesr ∉ may → t.gesr = s.gesr
  dear : Part.dear ∉ may → t.dear = s.dear
  ivor32 : Part.ivor32 ∉ may → t.ivor32 = s.ivor32
  ivor33 : Part.ivor33 ∉ may → t.ivor33 = s.ivor33
  draws : Part.draws ∉ may → t.freeCtr = s.freeCtr
  memory : ∀ b, (∀ a n, Part.bytes a n ∈ may → ¬ within a n b) → t.readByte b = s.readByte b
  vectors : t.ivpr = s.ivpr ∧ t.ivor2 = s.ivor2 ∧ t.ivor5 = s.ivor5 ∧ t.ivor6 = s.ivor6 ∧ t.ivor13 = s.ivor13
  contexts : t.eplc = s.eplc ∧ t.epsc = s.epsc ∧ t.pid = s.pid ∧ t.lpidr = s.lpidr
  platform : t.mode64 = s.mode64 ∧ t.cfg = s.cfg ∧ t.xlat = s.xlat

/-! ### Taking an interrupt -/

/-- What taking the interrupt `k` leaves, not directed to the guest (60_exceptions.md rule R450): the address of the
instruction in SRR0, the MSR in SRR1, MSR[SPV] and MSR[PR] clear and its other bits kept, the syndrome in the ESR and the
address of the access in DEAR where there is one, the pc at IVPR_base || IVOR, and everything else but `also` as it was. -/
structure Entered (k : Interrupt) (syndrome : Option Word) (addr : Option DWord) (also : List Part) (s t : State) :
    Prop where
  srr0 : t.srr0 = s.pc
  srr1 : t.srr1 = s.msr
  spv : t.spv = false
  pr : t.prBit = false
  msr : ∀ i, i ≠ 25 → i ≠ 14 → t.msr.getLsbD i = s.msr.getLsbD i
  esr : t.esr = syndrome.getD s.esr
  dear : t.dear = addr.getD s.dear
  pc : t.pc = s.modeAddr (s.ivpr ++ s.ivor k)
  frame : Frame (.srr0 :: .srr1 :: .msr :: .esr :: .dear :: also) s t

/-- `exec` takes the interrupt, and the instruction has no other effect. -/
def Interrupts (i : Instr) (s : State) (k : Interrupt) (syndrome : Option Word) (addr : Option DWord) : Prop :=
  ∃ t, exec i s = .next t ∧ Entered k syndrome addr [] s t

/-! ### Forms of a rule -/

/-- A word that is no instruction of the machine: the answer is the base machine's next state, or, where there is none, the
refusal `x` (rule R430, D25). -/
def LeftToBase (s : State) (x : Refusal) (r : Result) : Prop :=
  (s.baseMachine = none → r = .refused x) ∧ ∀ t, s.baseMachine = some t → r = .next t

/-- `exec` answers a next state: the pc has moved to the next instruction, `E` holds of the state, and nothing else but the
parts in `may` has changed. -/
def Completes (i : Instr) (s : State) (may : List Part) (E : State → Prop) : Prop :=
  ∃ t, exec i s = .next t ∧ t.pc = s.modeAddr (s.pc + 4) ∧ E t ∧ Frame may s t

/-- The rule of an AltiVec instruction: with MSR[SPV] = 1 it completes with the effect `E`, with MSR[SPV] = 0 it raises
AltiVec unavailable (rule R441). -/
def VectorRule (i : Instr) (s : State) (may : List Part) (E : State → Prop) : Prop :=
  (s.spv = true → Completes i s may E) ∧ (s.spv = false → Interrupts i s .altivecUnavailable none none)

/-- Element `j` of width `n` of VR[vD] in `t` is in the relation `R` to those of VR[vA] and VR[vB] in `s`, for the `k`
elements. -/
def Elems2 (n k : Nat) (s t : State) (vd va vb : Reg) (R : BitVec n → BitVec n → BitVec n → Prop) : Prop :=
  ∀ j < k, R (elem n (s.vr va) j) (elem n (s.vr vb) j) (elem n (t.vr vd) j)

/-- VSCR[SAT] after a saturating instruction: as it was, or set where one of the `k` elements is out of range (rule R25). -/
def SatAfter (s t : State) (k : Nat) (out : Nat → Prop) : Prop := t.sat = true ↔ s.sat = true ∨ ∃ j < k, out j

/-- The rule of a saturating instruction of two sources. -/
def SatRule2 (i : Instr) (n k : Nat) (s : State) (vd va vb : Reg) (R : BitVec n → BitVec n → BitVec n → Prop)
    (out : BitVec n → BitVec n → Prop) : Prop :=
  VectorRule i s [.vr vd, .sat] fun t =>
    Elems2 n k s t vd va vb R ∧ SatAfter s t k fun j => out (elem n (s.vr va) j) (elem n (s.vr vb) j)

/-- The unsigned range of `n` bits clamps `x` (rule R27). -/
def clampU (n : Nat) (x : Int) : Int := max 0 (min (2 ^ n - 1) x)

/-- Outside the unsigned range of `n` bits. -/
def outU (n : Nat) (x : Int) : Prop := x < 0 ∨ 2 ^ n - 1 < x

/-- The signed range of `n` bits clamps `x` (rule R27). -/
def clampS (n : Nat) (x : Int) : Int := max (-2 ^ (n - 1)) (min (2 ^ (n - 1) - 1) x)

/-- Outside the signed range of `n` bits. -/
def outS (n : Nat) (x : Int) : Prop := x < -2 ^ (n - 1) ∨ 2 ^ (n - 1) - 1 < x

/-- CR6, bits 24 to 27 of the CR (rule R33). -/
def State.cr6 (s : State) : BitVec 4 := s.cr.extractLsb' 4 4

/-- The parts a compare may change. -/
def compareParts (vd : Reg) (rc : Bool) : List Part := if rc then [.vr vd, .cr6] else [.vr vd]

/-- The rule of an integer compare (rules R34, R200): every element is all ones where `rel` holds and zero where not; with
Rc = 1 CR6 is `all || 0 || none || 0`. -/
def CompareRule (i : Instr) (n k : Nat) (s : State) (vd va vb : Reg) (rc : Bool) (rel : BitVec n → BitVec n → Prop) :
    Prop :=
  VectorRule i s (compareParts vd rc) fun t =>
    Elems2 n k s t vd va vb (fun a b d => (rel a b → d = BitVec.allOnes n) ∧ (¬ rel a b → d = 0)) ∧
    (rc = true →
      (t.cr6.getMsbD 0 = true ↔ ∀ j < k, rel (elem n (s.vr va) j) (elem n (s.vr vb) j)) ∧ t.cr6.getMsbD 1 = false ∧
      (t.cr6.getMsbD 2 = true ↔ ∀ j < k, ¬ rel (elem n (s.vr va) j) (elem n (s.vr vb) j)) ∧ t.cr6.getMsbD 3 = false)

/-- Does the instruction, reading the elements `src`, raise AltiVec assist (rule R444)? -/
def assistDue (i : Instr) (src : List Word) (s : State) : Bool :=
  src.any isDenormal && Cfg.wantsAssist s.cfg i src s.nj

/-- The rule of a floating-point instruction that reads the elements `src`: it completes where MSR[SPV] = 1 and no assist
is due; else it raises AltiVec unavailable, or AltiVec assist (rules R441, R443, R444). -/
def FloatRule (i : Instr) (src : List Word) (s : State) (may : List Part) (E : State → Prop) : Prop :=
  (s.spv = true → assistDue i src s = false → Completes i s may E) ∧
  (s.spv = true → assistDue i src s = true → Interrupts i s .altivecAssist none none) ∧
  (s.spv = false → Interrupts i s .altivecUnavailable none none)

/-- Does a left or right form at `ea` raise the alignment interrupt (rule R455)? -/
def State.alignmentDue (s : State) (ea : DWord) (kind : AccessKind) : Bool := s.cfg.alignIntOnCIWT && s.ciOrWt ea kind

/-! ### The bounds of the estimates -/

/-- `e` is a permitted reciprocal of the finite x, not zero (rule R268). A result above 2^-126, and with NJ = 1 any that is
no zero, has relative error at most 1/4096; a smaller one with NJ = 0 has at most that and half a unit of 2^-149, the
rounding of rule R243; an infinity, and with NJ = 1 a zero, stands only where a value within the error overflows, or lies
below 2^-126. -/
def RecipBound (nj : Bool) (x e : Word) : Prop :=
  let n : Int := magOf e
  let m : Int := magOf x
  let error := |n * m - 2 ^ 298|
  signOf e = signOf x ∧ isNaN e = false ∧
    (isInf e = true → (2 ^ 277 - 2 ^ 252) * (4096 * m) ≤ 4097 * 2 ^ 298) ∧
    (isInf e = false → 2 ^ 23 < n ∨ nj = true ∧ n ≠ 0 → 2 ^ 23 ≤ n ∧ 4096 * error ≤ 2 ^ 298) ∧
    (nj = false → n ≤ 2 ^ 23 → 2 * 4096 * error ≤ 2 * 2 ^ 298 + 4096 * m) ∧
    (nj = true → n = 0 → 4095 * 2 ^ 298 < 2 ^ 23 * (4096 * m))

/-- `e` is a permitted reciprocal square root of the positive finite x (rule R269): finite, with relative error at most
1/4096, the squares compared. -/
def RsqrtBound (x e : Word) : Prop :=
  signOf e = false ∧ isNaN e = false ∧ isInf e = false ∧ 4095 ^ 2 * 2 ^ 447 ≤ 4096 ^ 2 * magOf e ^ 2 * magOf x ∧
    4096 ^ 2 * magOf e ^ 2 * magOf x ≤ 4097 ^ 2 * 2 ^ 447

/-- The value of a finite element. -/
def ratOf (x : Word) : ℚ := valueOf x / 2 ^ 149

/-- `e` is a permitted base-2 logarithm of the positive finite x (rule R270): finite, with absolute error at most 1/32, and
at most 1/8 of the magnitude of the logarithm. -/
def LogBound (x e : Word) : Prop :=
  let log : ℝ := Real.logb 2 (ratOf x)
  let error : ℝ := |ratOf e - log|
  isNaN e = false ∧ isInf e = false ∧ error ≤ 1 / 32 ∧ error ≤ |log| / 8

/-- `e` is a permitted power of two of the finite x, not zero (rule R271): never negative, and with NJ = 1 no denormalized
number (rule R245); an infinity from 128 on, below it
only where a value within 1/16 overflows; from -126 on within 1/16, but with NJ = 1 zero where a value within 1/16 is below
2^-126; below -126 a zero with NJ = 1, and with NJ = 0 at most 2^-126, within 1/16 and half a unit of 2^-149, the rounding
of rule R243; exact for an integer from -149 on (with NJ = 1, from -126 on), and zero for one below. -/
def PowBound (nj : Bool) (x e : Word) : Prop :=
  let power : ℝ := 2 ^ (ratOf x : ℝ)
  let error : ℝ := |ratOf e - power|
  signOf e = false ∧ isNaN e = false ∧ (nj = true → e = 0 ∨ 2 ^ 23 ≤ magOf e) ∧ (128 ≤ ratOf x → e = 0x7F800000) ∧
    (isInf e = true → 2 ^ 128 - 2 ^ 103 ≤ 17 / 16 * power) ∧
    (-126 ≤ ratOf x → isInf e = false →
      if nj = true ∧ e = 0 then 15 / 16 * power < 1 / 2 ^ 126 else error ≤ power / 16) ∧
    (ratOf x < -126 → if nj then e = 0 else magOf e ≤ 2 ^ 23 ∧ error ≤ power / 16 + 1 / 2 ^ 150) ∧
    ∀ k : ℤ, ratOf x = k → (k < -149 → e = 0) ∧
      (-149 ≤ k → k < 128 → nj = false ∨ -126 ≤ k → ratOf e = 2 ^ k)

/-! ### Classes of instructions -/

/-- What an instruction tests before anything else (rules R407, R420, R441, R461). -/
inductive InstrKind where
  /-- A base instruction: nothing. -/
  | base
  /-- A data stream instruction: nothing. -/
  | stream
  /-- An external-PID instruction: MSR[PR], then MSR[SPV]. -/
  | externalPid
  /-- Every other AltiVec instruction: MSR[SPV]. -/
  | vector
  deriving DecidableEq, Repr

/-- The class of an instruction. -/
def kindOf (i : Instr) : InstrKind :=
  match i with
  | .addi .. | .addis .. | .bc .. | .b .. | .ori .. | .srawi .. | .mfspr .. | .mtspr .. | .rfi => .base
  | .dst .. | .dstt .. | .dstst .. | .dststt .. | .dss .. | .dssall .. => .stream
  | .lvepx .. | .lvepxl .. | .stvepx .. | .stvepxl .. => .externalPid
  | .lvsl .. | .lvebx .. | .lvsr .. | .lvehx .. | .mviwsplt .. | .lvewx .. | .lvx .. | .mvidsplt ..
  | .stvebx .. | .stvehx .. | .stvewx .. | .stvx .. | .lvexbx .. | .lvexhx .. | .lvexwx .. | .lvxl ..
  | .stvexbx .. | .stvexhx .. | .stvexwx .. | .stvxl .. | .lvtrx .. | .lvtlx .. | .lvswx .. | .stvfrx ..
  | .stvflx .. | .stvswx .. | .lvsm .. | .lvtrxl .. | .lvtlxl .. | .lvswxl .. | .stvfrxl .. | .stvflxl ..
  | .stvswxl .. | .vaddubm .. | .vmaxub .. | .vrlb .. | .vmuloub .. | .vaddfp .. | .vmrghb .. | .vpkuhum ..
  | .vadduhm .. | .vmaxuh .. | .vrlh .. | .vmulouh .. | .vsubfp .. | .vmrghh .. | .vpkuwum .. | .vadduwm ..
  | .vmaxuw .. | .vrlw .. | .vmrghw .. | .vpkuhus .. | .vpkuwus .. | .vmaxsb .. | .vslb .. | .vmulosb ..
  | .vmrglb .. | .vpkshus .. | .vmaxsh .. | .vslh .. | .vmulosh .. | .vmrglh .. | .vpkswus .. | .vaddcuw ..
  | .vmaxsw .. | .vslw .. | .vmrglw .. | .vpkshss .. | .vsl .. | .vpkswss .. | .vaddubs .. | .vminub ..
  | .vsrb .. | .vmuleub .. | .vadduhs .. | .vminuh .. | .vsrh .. | .vmuleuh .. | .vadduws .. | .vminuw ..
  | .vsrw .. | .vsr .. | .vaddsbs .. | .vminsb .. | .vsrab .. | .vmulesb .. | .vpkpx .. | .vaddshs ..
  | .vminsh .. | .vsrah .. | .vmulesh .. | .vaddsws .. | .vminsw .. | .vsraw .. | .vsububm .. | .vavgub ..
  | .vabsdub .. | .vand .. | .vmaxfp .. | .vslo .. | .vsubuhm .. | .vavguh .. | .vabsduh .. | .vandc ..
  | .vminfp .. | .vsro .. | .vsubuwm .. | .vavguw .. | .vabsduw .. | .vor .. | .vxor .. | .vavgsb ..
  | .vnor .. | .vavgsh .. | .vsubcuw .. | .vavgsw .. | .vsububs .. | .vsum4ubs .. | .vsubuhs ..
  | .vsum4shs .. | .vsubuws .. | .vsum2sws .. | .vsubsbs .. | .vsum4sbs .. | .vsubshs .. | .vsubsws ..
  | .vsumsws .. | .vrefp .. | .vrsqrtefp .. | .vexptefp .. | .vlogefp .. | .vrfin .. | .vrfiz .. | .vrfip ..
  | .vrfim .. | .vupkhsb .. | .vupkhsh .. | .vupklsb .. | .vupklsh .. | .vupkhpx .. | .vupklpx .. | .vcfux ..
  | .vcfsx .. | .vctuxs .. | .vctsxs .. | .vspltb .. | .vsplth .. | .vspltw .. | .vspltisb .. | .vspltish ..
  | .vspltisw .. | .mfvscr .. | .mtvscr .. | .vcmpequb .. | .vcmpequh .. | .vcmpequw .. | .vcmpeqfp ..
  | .vcmpgefp .. | .vcmpgtub .. | .vcmpgtuh .. | .vcmpgtuw .. | .vcmpgtfp .. | .vcmpgtsb .. | .vcmpgtsh ..
  | .vcmpgtsw .. | .vcmpbfp .. | .vmhaddshs .. | .vmhraddshs .. | .vmladduhm .. | .vmsumubm .. | .vmsummbm ..
  | .vmsumuhm .. | .vmsumuhs .. | .vmsumshm .. | .vmsumshs .. | .vsel .. | .vperm .. | .vmaddfp ..
  | .vnmsubfp .. | .vsldoi .. => .vector

/-- The elements a floating-point instruction reads (rule R444). -/
def floatSources (i : Instr) (s : State) : Option (List Word) :=
  match i with
  | .vrfin _ vb => some (wordsOf (s.vr vb))
  | .vrfiz _ vb => some (wordsOf (s.vr vb))
  | .vrfip _ vb => some (wordsOf (s.vr vb))
  | .vrfim _ vb => some (wordsOf (s.vr vb))
  | .vrefp _ vb => some (wordsOf (s.vr vb))
  | .vrsqrtefp _ vb => some (wordsOf (s.vr vb))
  | .vlogefp _ vb => some (wordsOf (s.vr vb))
  | .vexptefp _ vb => some (wordsOf (s.vr vb))
  | .vctuxs _ vb _ => some (wordsOf (s.vr vb))
  | .vctsxs _ vb _ => some (wordsOf (s.vr vb))
  | .vaddfp _ va vb => some (wordsOf (s.vr va) ++ wordsOf (s.vr vb))
  | .vsubfp _ va vb => some (wordsOf (s.vr va) ++ wordsOf (s.vr vb))
  | .vmaxfp _ va vb => some (wordsOf (s.vr va) ++ wordsOf (s.vr vb))
  | .vminfp _ va vb => some (wordsOf (s.vr va) ++ wordsOf (s.vr vb))
  | .vcmpeqfp _ va vb _ => some (wordsOf (s.vr va) ++ wordsOf (s.vr vb))
  | .vcmpgefp _ va vb _ => some (wordsOf (s.vr va) ++ wordsOf (s.vr vb))
  | .vcmpgtfp _ va vb _ => some (wordsOf (s.vr va) ++ wordsOf (s.vr vb))
  | .vcmpbfp _ va vb _ => some (wordsOf (s.vr va) ++ wordsOf (s.vr vb))
  | .vmaddfp _ va vb vc => some (wordsOf (s.vr va) ++ wordsOf (s.vr vb) ++ wordsOf (s.vr vc))
  | .vnmsubfp _ va vb vc => some (wordsOf (s.vr va) ++ wordsOf (s.vr vb) ++ wordsOf (s.vr vc))
  | _ => none

/-- A translated access to memory. -/
structure Access where
  addr : DWord
  kind : AccessKind
  ctx : AccessCtx
  isExternal : Bool
  deriving DecidableEq, Repr

/-- The access a load or store makes: the address that is translated, after alignment (rules R56, R295 to R314, R326),
and its context (rule R40). -/
def accessOf (i : Instr) (s : State) : Option Access :=
  match i with
  | .lvebx _ ra rb => some ⟨s.ea ra rb, .load, s.normalCtx, false⟩
  | .lvexbx _ ra rb => some ⟨s.ea ra rb, .load, s.normalCtx, false⟩
  | .lvehx _ ra rb => some ⟨alignDown 1 (s.ea ra rb), .load, s.normalCtx, false⟩
  | .lvexhx _ ra rb => some ⟨alignDown 1 (s.ea ra rb), .load, s.normalCtx, false⟩
  | .lvewx _ ra rb => some ⟨alignDown 2 (s.ea ra rb), .load, s.normalCtx, false⟩
  | .lvexwx _ ra rb => some ⟨alignDown 2 (s.ea ra rb), .load, s.normalCtx, false⟩
  | .stvebx _ ra rb => some ⟨s.ea ra rb, .store, s.normalCtx, false⟩
  | .stvexbx _ ra rb => some ⟨s.ea ra rb, .store, s.normalCtx, false⟩
  | .stvehx _ ra rb => some ⟨alignDown 1 (s.ea ra rb), .store, s.normalCtx, false⟩
  | .stvexhx _ ra rb => some ⟨alignDown 1 (s.ea ra rb), .store, s.normalCtx, false⟩
  | .stvewx _ ra rb => some ⟨alignDown 2 (s.ea ra rb), .store, s.normalCtx, false⟩
  | .stvexwx _ ra rb => some ⟨alignDown 2 (s.ea ra rb), .store, s.normalCtx, false⟩
  | .lvx _ ra rb => some ⟨alignDown 4 (s.ea ra rb), .load, s.normalCtx, false⟩
  | .lvxl _ ra rb => some ⟨alignDown 4 (s.ea ra rb), .load, s.normalCtx, false⟩
  | .stvx _ ra rb => some ⟨alignDown 4 (s.ea ra rb), .store, s.normalCtx, false⟩
  | .stvxl _ ra rb => some ⟨alignDown 4 (s.ea ra rb), .store, s.normalCtx, false⟩
  | .lvepx _ ra rb => some ⟨alignDown 4 (s.ea ra rb), .load, s.externalCtx s.eplc, true⟩
  | .lvepxl _ ra rb => some ⟨alignDown 4 (s.ea ra rb), .load, s.externalCtx s.eplc, true⟩
  | .stvepx _ ra rb => some ⟨alignDown 4 (s.ea ra rb), .store, s.externalCtx s.epsc, true⟩
  | .stvepxl _ ra rb => some ⟨alignDown 4 (s.ea ra rb), .store, s.externalCtx s.epsc, true⟩
  | .lvtlx _ ra rb => some ⟨s.ea ra rb, .load, s.normalCtx, false⟩
  | .lvtlxl _ ra rb => some ⟨s.ea ra rb, .load, s.normalCtx, false⟩
  | .lvtrx _ ra rb => some ⟨alignDown 4 (s.ea ra rb), .load, s.normalCtx, false⟩
  | .lvtrxl _ ra rb => some ⟨alignDown 4 (s.ea ra rb), .load, s.normalCtx, false⟩
  | .lvswx _ ra rb => some ⟨alignDown 4 (s.ea ra rb), .load, s.normalCtx, false⟩
  | .lvswxl _ ra rb => some ⟨alignDown 4 (s.ea ra rb), .load, s.normalCtx, false⟩
  | .stvflx _ ra rb => some ⟨s.ea ra rb, .store, s.normalCtx, false⟩
  | .stvflxl _ ra rb => some ⟨s.ea ra rb, .store, s.normalCtx, false⟩
  | .stvfrx _ ra rb => some ⟨alignDown 4 (s.ea ra rb), .store, s.normalCtx, false⟩
  | .stvfrxl _ ra rb => some ⟨alignDown 4 (s.ea ra rb), .store, s.normalCtx, false⟩
  | .stvswx _ ra rb => some ⟨alignDown 4 (s.ea ra rb), .store, s.normalCtx, false⟩
  | .stvswxl _ ra rb => some ⟨alignDown 4 (s.ea ra rb), .store, s.normalCtx, false⟩
  | _ => none

/-- The vector register that a storage interrupt may leave changed (rules R67, R456). -/
def partialTarget (i : Instr) : List Part :=
  match i with
  | .lvx vd _ _ | .lvxl vd _ _ | .lvepx vd _ _ | .lvepxl vd _ _ => [.vr vd, .draws]
  | _ => []

/-! ### The invariant of the machine -/

/-- What holds of every state a run passes through. -/
structure State.Inv (s : State) : Prop where
  /-- Memory is in canonical form. -/
  memCanonical : Memory.wf s.mem
  /-- The pc is a multiple of 4 (rule R41). -/
  pcAligned : s.pc.setWidth 2 = 0#2
  /-- The last four bits of every IVOR are zero (rules R32, R450). -/
  ivorsAligned : ∀ k, (s.ivor k).setWidth 4 = 0#4
  /-- Outside 64-bit mode the pc has 32 bits (rules R41, R44). -/
  pcNarrow : s.is64 = false → s.pc.extractLsb' 32 32 = 0#32
  /-- On a 32-bit implementation a general register has 32 bits (rule R38). -/
  gprsNarrow : s.cfg.impl64 = false → ∀ r, (s.gpr r).extractLsb' 32 32 = 0#32
  /-- On a 32-bit implementation CTR and LR have 32 bits (rule R424). -/
  ctrNarrow : s.cfg.impl64 = false → s.ctr.extractLsb' 32 32 = 0#32 ∧ s.lr.extractLsb' 32 32 = 0#32

end Sys2Proof.Machine
end

