-- ==== Sys2Proof/Certificates/Slice0/Obligations.lean ====
section
/-! DEFINITION. The statements for the provers. Their terms are those of Sys2Proof/Safety.lean. -/

open Sys2Proof Sys2Proof.Machine

/-- Where the pc is a multiple of 4, the pc translates, as the address of a load in the normal context, to a real address,
and the four bytes from there on, the first the most significant, decode to an instruction i, step answers exactly
what exec of i answers at that state: a step adds nothing around exec, which itself moves the pc. That a fetch asks
the translation as a load does is the model's reading of one effective-address space (log entry 5). An unallocated
word is not decoded and so is not run as another instruction. (70_reset_and_hazards.md R478, 30_encoding.md R80,
10_state.md R42.) -/
def Obligations.StepRunsDecodedInstruction : Prop :=
  ∀ (s : State) (i : Instr) (real : DWord) (m : MemAttr), s.pc.setWidth 2 = 0#2 →
    s.translate s.pc .load s.normalCtx = .ok real m →
    decode (s.byteAt real 0 ++ s.byteAt real 1 ++ s.byteAt real 2 ++ s.byteAt real 3) = .ok i → step s = exec i s

/-- A pc that is no multiple of 4 faults by name, and an aligned one whose translation faults is refused by name. A word
that decodes to no row, the external-PID forms without category E.PD, mvidsplt on a 32-bit implementation, and mfspr
and mtspr of an SPR number other than 8, 9, 26, 27, 256, 528 and 529 are handed to the base machine (BaseStep): the
next state is the one it gives, and where it gives none they are refused by name, whatever the state. The
configuration that supplies no base machine, the default of the spec and of reset, gives none. The fault and the names
are the model's (assumption log entries 5, 9 and 16). (60_exceptions.md R443, 49_base_isa_subset.md R430,
30_encoding.md R101, 30_encoding.md R102, 60_exceptions.md R457, 00_scope.md R7, 92_eei_decisions.md D25.) -/
def Obligations.StopsHaveNames : Prop :=
  (∀ s : State, s.pc.setWidth 2 ≠ 0#2 → step s = .fault (.pcNotWordAligned s.pc)) ∧
  (∀ s : State, s.cfg.baseStep = .refuse → s.baseMachine = none) ∧
  (∀ (s : State) (f : StorageFault) (g : Bool), s.pc.setWidth 2 = 0#2 →
    s.translate s.pc .load s.normalCtx = .fault f g → step s = .refused (.fetchFault f)) ∧
  (∀ (s : State) (w : Word) (real : DWord) (m : MemAttr), s.pc.setWidth 2 = 0#2 →
    s.translate s.pc .load s.normalCtx = .ok real m → decode (s.readWord real) = .unallocated w →
    LeftToBase s (.unallocated w) (step s)) ∧
  (∀ (s : State) (r ra rb : Reg), s.cfg.hasEPD = false →
    LeftToBase s (.categoryAbsent "lvepx") (exec (.lvepx r ra rb) s) ∧
    LeftToBase s (.categoryAbsent "lvepxl") (exec (.lvepxl r ra rb) s) ∧
    LeftToBase s (.categoryAbsent "stvepx") (exec (.stvepx r ra rb) s) ∧
    LeftToBase s (.categoryAbsent "stvepxl") (exec (.stvepxl r ra rb) s)) ∧
  (∀ (s : State) (vd ra rb : Reg), s.cfg.impl64 = false →
    LeftToBase s (.categoryAbsent "mvidsplt") (exec (.mvidsplt vd ra rb) s)) ∧
  (∀ (s : State) (r : Reg) (n : BitVec 10), n.toNat ∉ [8, 9, 26, 27, 256, 528, 529] →
    LeftToBase s (.sprNotListed n) (exec (.mfspr r n) s) ∧ LeftToBase s (.sprNotListed n) (exec (.mtspr n r) s))

/-- For every instruction and every value of its operands, the decoder reads the encoder's word, the encoder's four bytes,
and the table word of the same bits back as that instruction: no bit of an operand is dropped and no encoding is read
as another row. (30_encoding.md R86, 30_encoding.md R96, 30_encoding.md R97, 30_encoding.md R98, 30_encoding.md R99,
49_base_isa_subset.md R420.) -/
def Obligations.DecodeOfEncode : Prop :=
  ∀ i : Instr, decode (encode i) = .ok i ∧ decodeBytes (encodeBytes i) = (.ok i, []) ∧
    decodeTableWord 32 (encode i).toNat = some i

/-- The five worked encodings of rule R106 and one word each of the base branch, rfi and stream rows decode to the
instruction the spec names. (30_encoding.md R106, 60_exceptions.md R451, 47_vscr_move_stream.md R411,
49_base_isa_subset.md R425.) -/
def Obligations.WorkedEncodingsDecode : Prop :=
  decode 0x10611300#32 = .ok (.vaddsbs 3 1 2) ∧ decode 0x7CA0254A#32 = .ok (.stvfrx 5 0 4) ∧
    decode 0x104324C6#32 = .ok (.vcmpeqfp 2 3 4 true) ∧ decode 0x1022192C#32 = .ok (.vsldoi 1 2 3 4) ∧
    decode 0x101F038C#32 = .ok (.vspltisw 0 31) ∧ decode 0x48000000#32 = .ok (.b 0) ∧
    decode 0x4C000064#32 = .ok .rfi ∧ decode 0x7E442AAC#32 = .ok (.dstt 2 4 5)

/-- For every value of the reserved fields: the vA field of the one-source instructions, the vB field of the immediate
splats, both fields of mfvscr and the two first of mtvscr, the high bits of the vA field of the splats, bit 21 of
vsldoi, bit 31 of every X-form AltiVec row, bits 7-8 and the unused fields of the stream rows, and bits 6-20 and 31 of
rfi do not change what is decoded. (R94.) -/
def Obligations.ReservedFieldsIgnored : Prop :=
  ∀ (d a b : Reg),
    decode (wordVX 266 d a b) = .ok (.vrefp d b) ∧
    decode (wordVX 330 d a b) = .ok (.vrsqrtefp d b) ∧
    decode (wordVX 394 d a b) = .ok (.vexptefp d b) ∧
    decode (wordVX 458 d a b) = .ok (.vlogefp d b) ∧
    decode (wordVX 522 d a b) = .ok (.vrfin d b) ∧
    decode (wordVX 586 d a b) = .ok (.vrfiz d b) ∧
    decode (wordVX 650 d a b) = .ok (.vrfip d b) ∧
    decode (wordVX 714 d a b) = .ok (.vrfim d b) ∧
    decode (wordVX 526 d a b) = .ok (.vupkhsb d b) ∧
    decode (wordVX 590 d a b) = .ok (.vupkhsh d b) ∧
    decode (wordVX 654 d a b) = .ok (.vupklsb d b) ∧
    decode (wordVX 718 d a b) = .ok (.vupklsh d b) ∧
    decode (wordVX 846 d a b) = .ok (.vupkhpx d b) ∧
    decode (wordVX 974 d a b) = .ok (.vupklpx d b) ∧
    decode (wordVX 524 d a b) = .ok (.vspltb d b (a.setWidth 4)) ∧
    decode (wordVX 588 d a b) = .ok (.vsplth d b (a.setWidth 3)) ∧
    decode (wordVX 652 d a b) = .ok (.vspltw d b (a.setWidth 2)) ∧
    decode (wordVX 780 d a b) = .ok (.vspltisb d a) ∧ decode (wordVX 844 d a b) = .ok (.vspltish d a) ∧
    decode (wordVX 908 d a b) = .ok (.vspltisw d a) ∧
    decode (wordVX 1540 d a b) = .ok (.mfvscr d) ∧ decode (wordVX 1604 d a b) = .ok (.mtvscr b) ∧
    (∀ c : Reg, decode (wordVA 44 d a b c) = .ok (.vsldoi d a b (c.setWidth 4))) ∧
    (∀ xo i, xo < 1024 → decode (wordX xo d a b) = .ok i → kindOf i ≠ .base →
      decode (wordX xo d a b ||| 1#32) = .ok i) ∧
    decode (wordX 822 d a b) = .ok (if d.getLsbD 4 then .dssall (d.setWidth 2) else .dss (d.setWidth 2)) ∧
    decode (wordX 342 d a b) = .ok (if d.getLsbD 4 then .dstt (d.setWidth 2) a b else .dst (d.setWidth 2) a b) ∧
    decode (wordX 374 d a b) = .ok (if d.getLsbD 4 then .dststt (d.setWidth 2) a b else .dstst (d.setWidth 2) a b) ∧
    ∀ (r : BitVec 15) (l : BitVec 1), decode (19#6 ++ r ++ 50#10 ++ l) = .ok .rfi

/-- The machine after reset has VRSAVE 0 (the value the source gives), VSCR 0 with NJ and SAT clear, and MSR[SPV] and
MSR[PR] clear (the spec's decisions D18 and D20). No other reset value is stated here: the spec gives none.
(10_state.md R48, 92_eei_decisions.md D18, 92_eei_decisions.md D20, 70_reset_and_hazards.md R470.) -/
def Obligations.ResetValuesOfTheSpec : Prop :=
  State.reset.vrsave = 0 ∧ State.reset.vscr = 0 ∧ State.reset.nj = false ∧ State.reset.sat = false ∧
    State.reset.spv = false ∧ State.reset.prBit = false

/-- State.reset has memory in canonical form, an aligned pc, aligned interrupt vector offsets, and narrow registers where
the implementation is narrow. The register values it rests on are the model's choice where the spec gives none (log
entry 1). (10_state.md R41, 60_exceptions.md R450, 20_memory.md R75.) -/
def Obligations.ResetMeetsInvariant : Prop :=
  State.Inv State.reset

/-- From every state that meets the invariant, reachable or not, a step that answers a next state answers one that meets
it: memory stays in canonical form, the pc stays a multiple of 4 and within the computation mode's width, the last
four bits of every IVOR stay zero, and on a 32-bit implementation the general registers, CTR and LR stay 32 bits wide.
The one exception is a step that a supplied base machine takes on a word outside the model: where no base machine is
supplied there is none. (10_state.md R41, 10_state.md R44, 10_state.md R38, 10_state.md R32, 60_exceptions.md R450.) -/
def Obligations.EveryStepKeepsInvariant : Prop :=
  ∀ s t : State, s.Inv → step s = .next t → t.Inv ∨ s.baseMachine = some t

/-- For every AltiVec instruction but the six stream no-operations (the external-PID forms where they exist and the
machine is in supervisor state, mvidsplt on a 64-bit implementation), with MSR[SPV] = 0: the pc is saved in SRR0 and
the MSR in SRR1, MSR[SPV] and MSR[PR] become 0 and the other MSR bits stay, the ESR and DEAR stay, the pc is IVPR_base
|| IVOR32, and no VR, VSCR, CR or memory byte changes. The new MSR, the unchanged ESR and the 16 bits of IVOR32 taken
as they stand are decisions D31, D32 and D17 of the spec (log entry 22); the cut of the handler's address outside
64-bit mode is log entry 10. (60_exceptions.md R441, 60_exceptions.md R450, 60_exceptions.md R453, 92_eei_decisions.md
D17, 92_eei_decisions.md D31, 92_eei_decisions.md D32.) -/
def Obligations.AltiVecUnavailableTaken : Prop :=
  ∀ (i : Instr) (s : State),
    kindOf i = .vector ∨ (kindOf i = .externalPid ∧ s.cfg.hasEPD = true ∧ s.prBit = false) →
    (∀ d a b, i = .mvidsplt d a b → s.cfg.impl64 = true) → s.spv = false →
    Interrupts i s .altivecUnavailable none none

/-- dst, dstt, dstst, dststt, dss and dssall answer a next state in every state: the pc is the next instruction's and
everything else is unchanged; no interrupt is taken. That they do not test MSR[SPV] is decision D30 of the spec in
rule R407 (log entry 17). (47_vscr_move_stream.md R407, 47_vscr_move_stream.md R408, 47_vscr_move_stream.md R409,
47_vscr_move_stream.md R410, 47_vscr_move_stream.md R411, 47_vscr_move_stream.md R412, 47_vscr_move_stream.md R413,
92_eei_decisions.md D30.) -/
def Obligations.StreamInstructionsDoNothing : Prop :=
  ∀ (i : Instr) (s : State), kindOf i = .stream → Completes i s [] fun _ => True

/-- With MSR[PR] = 1, whatever MSR[SPV] is: the external-PID forms (where they exist), rfi, and mfspr and mtspr of SRR0,
SRR1, IVOR32 and IVOR33 take the program interrupt through IVOR6 and do nothing else. The ESR gets the single bit PPR,
whose position 0x04000000 is the model's (log entry 7), and IVOR32 and IVOR33 as SPR 528 and 529 are the model's
reading (log entry 8). (60_exceptions.md R461, 60_exceptions.md R451, 49_base_isa_subset.md R428,
49_base_isa_subset.md R429, 10_state.md R32.) -/
def Obligations.PrivilegedInstructionsTrap : Prop :=
  ∀ (s : State), s.prBit = true →
    (∀ i, kindOf i = .externalPid → s.cfg.hasEPD = true → Interrupts i s .program (some 0x04000000) none) ∧
    Interrupts .rfi s .program (some 0x04000000) none ∧
    ∀ (r : Reg) (n : BitVec 10), n.toNat ∈ [26, 27, 528, 529] →
      Interrupts (.mfspr r n) s .program (some 0x04000000) none ∧
      Interrupts (.mtspr n r) s .program (some 0x04000000) none

/-- For each of the 32 loads and stores that pass their privilege and MSR[SPV] tests: where the translation of its aligned
address answers data storage or data TLB error, not directed to the guest, the interrupt is taken through IVOR2 or
IVOR13, the ESR gets SPV, ST for a store and EPID for an external-PID form, DEAR gets the translated address, no byte
of memory changes, and no VR changes except that vD of lvx, lvxl, lvepx and lvepxl is left open. That DEAR gets the
aligned address that was translated is the model's reading of rule R450 (log entry 21), and the bit positions of the
ESR are those of rule R453. (20_memory.md R66, 60_exceptions.md R450, 60_exceptions.md R452, 60_exceptions.md R453,
60_exceptions.md R456, 20_memory.md R67.) -/
def Obligations.StorageInterruptTaken : Prop :=
  ∀ (i : Instr) (s : State) (a : Access) (f : StorageFault), accessOf i s = some a → s.spv = true →
    (a.isExternal = true → s.cfg.hasEPD = true ∧ s.prBit = false) →
    s.translate a.addr a.kind a.ctx = .fault f false →
    ∃ t, exec i s = .next t ∧
      Entered (match f with | .dataStorage => .dataStorage | .dataTLBError => .dataTLBError)
        (some (0x00000080 ||| (if a.kind = .store then 0x00800000 else 0) |||
          (if a.isExternal = true then 0x00000040 else 0)))
        (some a.addr) (partialTarget i) s t

/-- Where the translation answers a fault directed to the guest, the address of the instruction goes to GSRR0, the MSR to
GSRR1 and the syndrome to GESR; SRR0, SRR1 and ESR stay; DEAR, MSR and the pc are as for any storage interrupt. That
DEAR and the IVOR are the same is the model's choice (log entry 15). (60_exceptions.md R462, 60_exceptions.md R450,
60_exceptions.md R453.) -/
def Obligations.StorageInterruptToGuest : Prop :=
  ∀ (i : Instr) (s : State) (a : Access) (f : StorageFault), accessOf i s = some a → s.spv = true →
    (a.isExternal = true → s.cfg.hasEPD = true ∧ s.prBit = false) →
    s.translate a.addr a.kind a.ctx = .fault f true →
    ∃ t, exec i s = .next t ∧ t.gsrr0 = s.pc ∧ t.gsrr1 = s.msr ∧ t.spv = false ∧ t.prBit = false ∧
      (∀ j, j ≠ 25 → j ≠ 14 → t.msr.getLsbD j = s.msr.getLsbD j) ∧ t.dear = a.addr ∧
      t.gesr = (0x00000080 ||| (if a.kind = .store then 0x00800000 else 0) |||
        (if a.isExternal = true then 0x00000040 else 0)) ∧
      t.pc = s.modeAddr (s.ivpr ++ (match f with | .dataStorage => s.ivor2 | .dataTLBError => s.ivor13)) ∧
      Frame (.gsrr :: .msr :: .gesr :: .dear :: partialTarget i) s t

/-- Where the implementation has AlignIntOnCIWT and EA lies in caching-inhibited or write-through memory, a left or right
load or store whose translation succeeds takes the alignment interrupt through IVOR5 and does nothing else: ESR gets
SPV, and ST for a store, and DEAR the effective address. That DEAR gets the address before alignment is the model's
reading of rule R450 (log entry 21). With no such attribute it is not taken: the completion statements of these forms
say so. (60_exceptions.md R455, 20_memory.md R65, 60_exceptions.md R453.) -/
def Obligations.AlignmentInterruptTaken : Prop :=
  ∀ (s : State) (r ra rb : Reg) (real : DWord) (m : MemAttr), s.spv = true → s.cfg.alignIntOnCIWT = true →
    (s.translate (s.ea ra rb) .load s.normalCtx = .ok real m → (m.cachingInhibited || m.writeThrough) = true →
      (∀ i ∈ [Instr.lvtlx r ra rb, .lvtlxl r ra rb],
        Interrupts i s .alignment (some 0x00000080) (some (s.ea ra rb))) ∧
      (∀ real' m', s.translate (alignDown 4 (s.ea ra rb)) .load s.normalCtx = .ok real' m' →
        ∀ i ∈ [Instr.lvtrx r ra rb, .lvtrxl r ra rb],
          Interrupts i s .alignment (some 0x00000080) (some (s.ea ra rb)))) ∧
    (s.translate (s.ea ra rb) .store s.normalCtx = .ok real m → (m.cachingInhibited || m.writeThrough) = true →
      (∀ i ∈ [Instr.stvflx r ra rb, .stvflxl r ra rb],
        Interrupts i s .alignment (some 0x00800080) (some (s.ea ra rb))) ∧
      (∀ real' m', s.translate (alignDown 4 (s.ea ra rb)) .store s.normalCtx = .ok real' m' →
        ∀ i ∈ [Instr.stvfrx r ra rb, .stvfrxl r ra rb],
          Interrupts i s .alignment (some 0x00800080) (some (s.ea ra rb))))

/-- For each of the 20 floating-point instructions that read single-precision elements, with MSR[SPV] = 1: where some
source element is denormalized and the implementation leaves every such operation to software, AltiVec assist is taken
through IVOR33, the ESR is unchanged, and the instruction does nothing else; where no source element is denormalized,
or the implementation never does so, no assist is due. That the ESR is unchanged is decision D32 of the spec (log
entry 22); the policy that takes every denormalized element to need software is one that the model's configuration
offers (log entry 13). (60_exceptions.md R444, 60_exceptions.md R450, 60_exceptions.md R453, 92_eei_decisions.md D6,
92_eei_decisions.md D32.) -/
def Obligations.AssistInterruptTaken : Prop :=
  ∀ (i : Instr) (s : State) (src : List Word), floatSources i s = some src → s.spv = true →
    (src.any isDenormal = true → s.cfg.assist = .everyDenormal → Interrupts i s .altivecAssist none none) ∧
    (src.any isDenormal = false ∨ s.cfg.assist = .never → assistDue i src s = false)

/-- With MSR[PR] = 0, rfi answers a next state whose MSR is the old SRR1, whole, and whose pc is SRR0 with its last two
bits clear, cut to 32 bits outside 64-bit mode; nothing else changes. After any interrupt not directed to the guest,
rfi thus answers a state with the MSR of the interrupted program and, where its pc was a multiple of 4, its pc; only
SRR0, SRR1, ESR and DEAR differ from the state before the interrupt. The cut outside 64-bit mode is the model's, after
the inference that rule R41 marks (log entry 10). (60_exceptions.md R450, 60_exceptions.md R451, 10_state.md R41.) -/
def Obligations.RfiRestoresMsrAndPc : Prop :=
  (∀ s : State, s.prBit = false → ∃ t, exec .rfi s = .next t ∧ t.msr = s.srr1 ∧
    t.pc = s.modeAddr (s.srr0 &&& ~~~3#64) ∧ Frame [.msr] s t) ∧
  ∀ (s : State) (k : Interrupt) (syn : Option Word) (addr : Option DWord),
    ∃ u, exec .rfi (s.takeInterrupt k syn addr false) = .next u ∧ u.msr = s.msr ∧
      (s.pc.setWidth 2 = 0#2 → u.pc = s.modeAddr s.pc) ∧ Frame [.srr0, .srr1, .esr, .dear] s u

/-- mfspr writes rD with LR (SPR 8), CTR (9), VRSAVE zero-extended (256), and in supervisor state SRR0 (26), SRR1 (27),
and IVOR32 and IVOR33 (528, 529) zero-extended, cut to XLEN bits, and changes nothing else. No MSR[SPV] is needed
(decision D16). The last two SPRs follow rule R32 (log entry 8). (49_base_isa_subset.md R428, 10_state.md R30,
10_state.md R31, 60_exceptions.md R451, 10_state.md R32, 92_eei_decisions.md D16.) -/
def Obligations.MoveFromSprResults : Prop :=
  ∀ (s : State) (rd : Reg),
    Completes (.mfspr rd 8) s [.gpr rd] (fun t => t.gpr rd = Cfg.toXlen s.cfg s.lr) ∧
    Completes (.mfspr rd 9) s [.gpr rd] (fun t => t.gpr rd = Cfg.toXlen s.cfg s.ctr) ∧
    Completes (.mfspr rd 256) s [.gpr rd] (fun t => t.gpr rd = s.vrsave.setWidth 64) ∧
    (s.prBit = false →
      Completes (.mfspr rd 26) s [.gpr rd] (fun t => t.gpr rd = Cfg.toXlen s.cfg s.srr0) ∧
      Completes (.mfspr rd 27) s [.gpr rd] (fun t => t.gpr rd = Cfg.toXlen s.cfg s.srr1) ∧
      Completes (.mfspr rd 528) s [.gpr rd] (fun t => t.gpr rd = s.ivor32.setWidth 64) ∧
      Completes (.mfspr rd 529) s [.gpr rd] (fun t => t.gpr rd = s.ivor33.setWidth 64))

/-- mtspr writes LR (SPR 8), CTR (9), the low 32 bits to VRSAVE (256), and in supervisor state SRR0 (26), SRR1 (27), and
the low 16 bits with the last four clear to IVOR32 and IVOR33 (528, 529), and changes nothing else. The last two SPRs
follow rule R32 (log entry 8). (49_base_isa_subset.md R429, 10_state.md R30, 10_state.md R31, 60_exceptions.md R451,
10_state.md R32, 92_eei_decisions.md D16.) -/
def Obligations.MoveToSprResults : Prop :=
  ∀ (s : State) (rs : Reg),
    Completes (.mtspr 8 rs) s [.lr] (fun t => t.lr = s.gpr rs) ∧
    Completes (.mtspr 9 rs) s [.ctr] (fun t => t.ctr = s.gpr rs) ∧
    Completes (.mtspr 256 rs) s [.vrsave] (fun t => t.vrsave = (s.gpr rs).setWidth 32) ∧
    (s.prBit = false →
      Completes (.mtspr 26 rs) s [.srr0] (fun t => t.srr0 = s.gpr rs) ∧
      Completes (.mtspr 27 rs) s [.srr1] (fun t => t.srr1 = s.gpr rs) ∧
      Completes (.mtspr 528 rs) s [.ivor32]
        (fun t => t.ivor32.setWidth 4 = 0#4 ∧ t.ivor32.extractLsb' 4 12 = (s.gpr rs).extractLsb' 4 12) ∧
      Completes (.mtspr 529 rs) s [.ivor33]
        (fun t => t.ivor33.setWidth 4 = 0#4 ∧ t.ivor33.extractLsb' 4 12 = (s.gpr rs).extractLsb' 4 12))

/-- addi adds the signed immediate, addis the immediate times 2^16, to GPR[rA], or to 0 where the rA field is 0, modulo
2^64 (2^32 on a 32-bit implementation); ori sets rA to rS OR the zero-extended immediate, XLEN bits of it, with no
special case for register 0. Nothing else changes; MSR[SPV] does not matter. (R421, R422, R427.) -/
def Obligations.ImmediateArithmeticResults : Prop :=
  ∀ (s : State) (rd ra : Reg) (imm : BitVec 16),
    let base : DWord := if ra = 0 then 0 else s.gpr ra
    let modulus : Int := if s.cfg.impl64 then 2 ^ 64 else 2 ^ 32
    Completes (.addi rd ra imm) s [.gpr rd] (fun t => ((t.gpr rd).toNat : Int) = (base.toNat + imm.toInt) % modulus) ∧
    Completes (.addis rd ra imm) s [.gpr rd]
      (fun t => ((t.gpr rd).toNat : Int) = (base.toNat + imm.toInt * 2 ^ 16) % modulus) ∧
    Completes (.ori rd ra imm) s [.gpr rd]
      (fun t => ((t.gpr rd).toNat : Int) = ((s.gpr ra).toNat ||| imm.toNat : Nat) % modulus)

/-- srawi writes rA with the low word of rS, signed, divided by 2^SH rounding down, sign-extended to XLEN bits, and
XER[CA] with 1 exactly where the word is negative and a 1 was shifted out. Nothing else changes. (R423.) -/
def Obligations.ShiftRightAlgebraicWordResult : Prop :=
  ∀ (s : State) (ra rs : Reg) (sh : BitVec 5),
    let w : Int := ((s.gpr rs).setWidth 32).toInt
    Completes (.srawi ra rs sh) s [.gpr ra, .xerCA] fun t =>
      ((t.gpr ra).setWidth 32).toInt = w / 2 ^ sh.toNat ∧
      (s.cfg.impl64 = true → (t.gpr ra).toInt = w / 2 ^ sh.toNat) ∧
      (t.xerCA = true ↔ w < 0 ∧ w % 2 ^ sh.toNat ≠ 0)

/-- b goes to pc + 4 * LI modulo the mode's address width. bc decrements CTR modulo 2^XLEN where BO[2] = 0 and keeps it
where BO[2] = 1; it is taken exactly where the count test (BO[2] = 1, or the new count, its low 32 bits in 32-bit
mode, is zero iff BO[3] = 1) and the condition test (BO[0] = 1, or CR[BI] = BO[1]) both hold, to pc + 4 * BD, else the
pc moves to the next instruction. Nothing else changes. That the target of a taken bc is cut to 32 bits outside 64-bit
mode, as that of b is, is the model's, after the inference that rule R41 marks (log entry 10). (49_base_isa_subset.md
R425, 49_base_isa_subset.md R426, 10_state.md R41, 10_state.md R44.) -/
def Obligations.BranchResults : Prop :=
  ∀ (s : State) (li : BitVec 24) (bo bi : BitVec 5) (bd : BitVec 14),
    let space : Int := if s.is64 then 2 ^ 64 else 2 ^ 32
    (∃ t, exec (.b li) s = .next t ∧ (t.pc.toNat : Int) = (s.pc.toNat + 4 * li.toInt) % space ∧ Frame [] s t) ∧
    ∃ t, exec (.bc bo bi bd) s = .next t ∧ Frame [.ctr] s t ∧
      (bo.getMsbD 2 = true → t.ctr = s.ctr) ∧
      (bo.getMsbD 2 = false →
        (t.ctr.toNat : Int) = ((s.ctr.toNat : Int) - 1) % (if s.cfg.impl64 then 2 ^ 64 else 2 ^ 32)) ∧
      (let count : Int := t.ctr.toNat % space
       let taken : Prop := (bo.getMsbD 2 = true ∨ (count = 0 ↔ bo.getMsbD 3 = true)) ∧
         (bo.getMsbD 0 = true ∨ s.crBit bi = bo.getMsbD 1)
       (taken → (t.pc.toNat : Int) = (s.pc.toNat + 4 * bd.toInt) % space) ∧
       (¬ taken → (t.pc.toNat : Int) = (s.pc.toNat + 4) % space))

/-- mfvscr clears the upper 96 bits of vD and puts NJ and SAT at bits 111 and 127; a reserved bit reads 0 where the VSCR
holds 0 there and is left open where it holds 1. mtvscr puts the low 32 bits of vB in the VSCR. With MSR[SPV] = 0 both
raise AltiVec unavailable. Nothing else changes but the model's count of free values. (R29, R28.) -/
def Obligations.VscrMoveResults : Prop :=
  ∀ (s : State) (v : Reg),
    VectorRule (.mfvscr v) s [.vr v, .draws] (fun t =>
      (t.vr v).extractLsb' 32 96 = 0#96 ∧ (t.vr v).getLsbD 16 = s.nj ∧ (t.vr v).getLsbD 0 = s.sat ∧
      ∀ j < 32, s.vscr.getLsbD j = false → (t.vr v).getLsbD j = false) ∧
    VectorRule (.mtvscr v) s [.vscr, .sat] (fun t => t.vscr = (s.vr v).setWidth 32)

/-- mvidsplt on a 64-bit implementation puts GPR[rA] in the upper and GPR[rB] in the lower 64 bits of vD; mviwsplt puts
the low words of rA and rB in words 0 and 2, and 1 and 3. Register 0 is read as itself. Nothing else changes; with
MSR[SPV] = 0 both raise AltiVec unavailable. On a 32-bit implementation mvidsplt is left to the base machine and else
refused by name (log entry 16). (47_vscr_move_stream.md R403, 47_vscr_move_stream.md R404, 30_encoding.md R102,
49_base_isa_subset.md R430.) -/
def Obligations.IntegerSplatResults : Prop :=
  ∀ (s : State) (vd ra rb : Reg),
    (s.cfg.impl64 = true → VectorRule (.mvidsplt vd ra rb) s [.vr vd] (fun t =>
      (t.vr vd).extractLsb' 64 64 = s.gpr ra ∧ (t.vr vd).extractLsb' 0 64 = s.gpr rb)) ∧
    (s.cfg.impl64 = false → LeftToBase s (.categoryAbsent "mvidsplt") (exec (.mvidsplt vd ra rb) s)) ∧
    VectorRule (.mviwsplt vd ra rb) s [.vr vd] (fun t =>
      word (t.vr vd) 0 = (s.gpr ra).setWidth 32 ∧ word (t.vr vd) 1 = (s.gpr rb).setWidth 32 ∧
      word (t.vr vd) 2 = (s.gpr ra).setWidth 32 ∧ word (t.vr vd) 3 = (s.gpr rb).setWidth 32)

/-- Each element of vD is the sum or difference of the elements of vA and vB modulo 2^N, for byte, half-word and word;
vaddcuw gives the carry out of the sum and vsubcuw 1 where nothing is borrowed. Only vD and the pc change; with
MSR[SPV] = 0 AltiVec unavailable is raised. (R112, R113, R114, R115, R122, R123, R124, R125.) -/
def Obligations.ModuloAddSubtractResults : Prop :=
  ∀ (s : State) (vd va vb : Reg),
    (VectorRule (.vaddubm vd va vb) s [.vr vd] (fun t => Elems2 8 16 s t vd va vb fun a b d =>
      d.toNat = (a.toNat + b.toNat) % 2 ^ 8)) ∧
    (VectorRule (.vadduhm vd va vb) s [.vr vd] (fun t => Elems2 16 8 s t vd va vb fun a b d =>
      d.toNat = (a.toNat + b.toNat) % 2 ^ 16)) ∧
    (VectorRule (.vadduwm vd va vb) s [.vr vd] (fun t => Elems2 32 4 s t vd va vb fun a b d =>
      d.toNat = (a.toNat + b.toNat) % 2 ^ 32)) ∧
    (VectorRule (.vaddcuw vd va vb) s [.vr vd] (fun t => Elems2 32 4 s t vd va vb fun a b d =>
      d.toNat = (a.toNat + b.toNat) / 2 ^ 32)) ∧
    (VectorRule (.vsububm vd va vb) s [.vr vd] (fun t => Elems2 8 16 s t vd va vb fun a b d =>
      (d.toNat : Int) = ((a.toNat : Int) - b.toNat) % 2 ^ 8)) ∧
    (VectorRule (.vsubuhm vd va vb) s [.vr vd] (fun t => Elems2 16 8 s t vd va vb fun a b d =>
      (d.toNat : Int) = ((a.toNat : Int) - b.toNat) % 2 ^ 16)) ∧
    (VectorRule (.vsubuwm vd va vb) s [.vr vd] (fun t => Elems2 32 4 s t vd va vb fun a b d =>
      (d.toNat : Int) = ((a.toNat : Int) - b.toNat) % 2 ^ 32)) ∧
    (VectorRule (.vsubcuw vd va vb) s [.vr vd] (fun t => Elems2 32 4 s t vd va vb fun a b d =>
      d.toNat = if b.toNat ≤ a.toNat then 1 else 0))

/-- Each element of vD is the exact sum or difference clamped to the unsigned or signed range of the element; SAT is set
where some exact result is out of range and else keeps its value (a result equal to a limit is no saturation). Only
vD, SAT and the pc change; with MSR[SPV] = 0 AltiVec unavailable is raised. (R116, R117, R118, R119, R120, R121, R126,
R127, R128, R129, R130, R131.) -/
def Obligations.SaturatingAddSubtractResults : Prop :=
  ∀ (s : State) (vd va vb : Reg),
    (SatRule2 (.vaddubs vd va vb) 8 16 s vd va vb
      (fun a b d => (d.toNat : Int) = clampU 8 (a.toNat + b.toNat)) (fun a b => outU 8 (a.toNat + b.toNat))) ∧
    (SatRule2 (.vadduhs vd va vb) 16 8 s vd va vb
      (fun a b d => (d.toNat : Int) = clampU 16 (a.toNat + b.toNat)) (fun a b => outU 16 (a.toNat + b.toNat))) ∧
    (SatRule2 (.vadduws vd va vb) 32 4 s vd va vb
      (fun a b d => (d.toNat : Int) = clampU 32 (a.toNat + b.toNat)) (fun a b => outU 32 (a.toNat + b.toNat))) ∧
    (SatRule2 (.vaddsbs vd va vb) 8 16 s vd va vb
      (fun a b d => d.toInt = clampS 8 (a.toInt + b.toInt)) (fun a b => outS 8 (a.toInt + b.toInt))) ∧
    (SatRule2 (.vaddshs vd va vb) 16 8 s vd va vb
      (fun a b d => d.toInt = clampS 16 (a.toInt + b.toInt)) (fun a b => outS 16 (a.toInt + b.toInt))) ∧
    (SatRule2 (.vaddsws vd va vb) 32 4 s vd va vb
      (fun a b d => d.toInt = clampS 32 (a.toInt + b.toInt)) (fun a b => outS 32 (a.toInt + b.toInt))) ∧
    (SatRule2 (.vsububs vd va vb) 8 16 s vd va vb
      (fun a b d => (d.toNat : Int) = clampU 8 (a.toNat - b.toNat)) (fun a b => outU 8 (a.toNat - b.toNat))) ∧
    (SatRule2 (.vsubuhs vd va vb) 16 8 s vd va vb
      (fun a b d => (d.toNat : Int) = clampU 16 (a.toNat - b.toNat)) (fun a b => outU 16 (a.toNat - b.toNat))) ∧
    (SatRule2 (.vsubuws vd va vb) 32 4 s vd va vb
      (fun a b d => (d.toNat : Int) = clampU 32 (a.toNat - b.toNat)) (fun a b => outU 32 (a.toNat - b.toNat))) ∧
    (SatRule2 (.vsubsbs vd va vb) 8 16 s vd va vb
      (fun a b d => d.toInt = clampS 8 (a.toInt - b.toInt)) (fun a b => outS 8 (a.toInt - b.toInt))) ∧
    (SatRule2 (.vsubshs vd va vb) 16 8 s vd va vb
      (fun a b d => d.toInt = clampS 16 (a.toInt - b.toInt)) (fun a b => outS 16 (a.toInt - b.toInt))) ∧
    (SatRule2 (.vsubsws vd va vb) 32 4 s vd va vb
      (fun a b d => d.toInt = clampS 32 (a.toInt - b.toInt)) (fun a b => outS 32 (a.toInt - b.toInt)))

/-- Each element of vD is the sum of the elements plus one, halved rounding down, unsigned or signed; or the absolute
difference of the unsigned elements. No rounding is lost and SAT is not touched. Only vD and the pc change; with
MSR[SPV] = 0 AltiVec unavailable is raised. (R132, R133, R134, R135, R136, R137, R138, R139, R140.) -/
def Obligations.AverageAndDifferenceResults : Prop :=
  ∀ (s : State) (vd va vb : Reg),
    (VectorRule (.vavgub vd va vb) s [.vr vd] (fun t => Elems2 8 16 s t vd va vb fun a b d =>
      d.toNat = (a.toNat + b.toNat + 1) / 2)) ∧
    (VectorRule (.vavguh vd va vb) s [.vr vd] (fun t => Elems2 16 8 s t vd va vb fun a b d =>
      d.toNat = (a.toNat + b.toNat + 1) / 2)) ∧
    (VectorRule (.vavguw vd va vb) s [.vr vd] (fun t => Elems2 32 4 s t vd va vb fun a b d =>
      d.toNat = (a.toNat + b.toNat + 1) / 2)) ∧
    (VectorRule (.vavgsb vd va vb) s [.vr vd] (fun t => Elems2 8 16 s t vd va vb fun a b d =>
      d.toInt = (a.toInt + b.toInt + 1) / 2)) ∧
    (VectorRule (.vavgsh vd va vb) s [.vr vd] (fun t => Elems2 16 8 s t vd va vb fun a b d =>
      d.toInt = (a.toInt + b.toInt + 1) / 2)) ∧
    (VectorRule (.vavgsw vd va vb) s [.vr vd] (fun t => Elems2 32 4 s t vd va vb fun a b d =>
      d.toInt = (a.toInt + b.toInt + 1) / 2)) ∧
    (VectorRule (.vabsdub vd va vb) s [.vr vd] (fun t => Elems2 8 16 s t vd va vb fun a b d =>
      (d.toNat : Int) = |(a.toNat : Int) - b.toNat|)) ∧
    (VectorRule (.vabsduh vd va vb) s [.vr vd] (fun t => Elems2 16 8 s t vd va vb fun a b d =>
      (d.toNat : Int) = |(a.toNat : Int) - b.toNat|)) ∧
    (VectorRule (.vabsduw vd va vb) s [.vr vd] (fun t => Elems2 32 4 s t vd va vb fun a b d =>
      (d.toNat : Int) = |(a.toNat : Int) - b.toNat|))

/-- Each element of vD is the greater or the lesser of the elements of vA and vB, as unsigned or signed integers. Only vD
and the pc change; with MSR[SPV] = 0 AltiVec unavailable is raised. (R141, R142, R143, R144, R145, R146, R147, R148,
R149, R150, R151, R152.) -/
def Obligations.MaximumMinimumResults : Prop :=
  ∀ (s : State) (vd va vb : Reg),
    (VectorRule (.vmaxub vd va vb) s [.vr vd] (fun t => Elems2 8 16 s t vd va vb fun a b d =>
      d.toNat = max a.toNat b.toNat)) ∧
    (VectorRule (.vmaxuh vd va vb) s [.vr vd] (fun t => Elems2 16 8 s t vd va vb fun a b d =>
      d.toNat = max a.toNat b.toNat)) ∧
    (VectorRule (.vmaxuw vd va vb) s [.vr vd] (fun t => Elems2 32 4 s t vd va vb fun a b d =>
      d.toNat = max a.toNat b.toNat)) ∧
    (VectorRule (.vmaxsb vd va vb) s [.vr vd] (fun t => Elems2 8 16 s t vd va vb fun a b d =>
      d.toInt = max a.toInt b.toInt)) ∧
    (VectorRule (.vmaxsh vd va vb) s [.vr vd] (fun t => Elems2 16 8 s t vd va vb fun a b d =>
      d.toInt = max a.toInt b.toInt)) ∧
    (VectorRule (.vmaxsw vd va vb) s [.vr vd] (fun t => Elems2 32 4 s t vd va vb fun a b d =>
      d.toInt = max a.toInt b.toInt)) ∧
    (VectorRule (.vminub vd va vb) s [.vr vd] (fun t => Elems2 8 16 s t vd va vb fun a b d =>
      d.toNat = min a.toNat b.toNat)) ∧
    (VectorRule (.vminuh vd va vb) s [.vr vd] (fun t => Elems2 16 8 s t vd va vb fun a b d =>
      d.toNat = min a.toNat b.toNat)) ∧
    (VectorRule (.vminuw vd va vb) s [.vr vd] (fun t => Elems2 32 4 s t vd va vb fun a b d =>
      d.toNat = min a.toNat b.toNat)) ∧
    (VectorRule (.vminsb vd va vb) s [.vr vd] (fun t => Elems2 8 16 s t vd va vb fun a b d =>
      d.toInt = min a.toInt b.toInt)) ∧
    (VectorRule (.vminsh vd va vb) s [.vr vd] (fun t => Elems2 16 8 s t vd va vb fun a b d =>
      d.toInt = min a.toInt b.toInt)) ∧
    (VectorRule (.vminsw vd va vb) s [.vr vd] (fun t => Elems2 32 4 s t vd va vb fun a b d =>
      d.toInt = min a.toInt b.toInt))

/-- Element j of vD, twice as wide, is the exact product of elements 2 j (even forms) or 2 j + 1 (odd forms) of vA and vB,
unsigned or signed. Only vD and the pc change; with MSR[SPV] = 0 AltiVec unavailable is raised. (R171, R172, R173,
R174, R175, R176, R177, R178.) -/
def Obligations.MultiplyEvenOddResults : Prop :=
  ∀ (s : State) (vd va vb : Reg),
    (VectorRule (.vmuleub vd va vb) s [.vr vd] (fun t => ∀ j < 8, (elem 16 (t.vr vd) j).toNat =
      (elem 8 (s.vr va) (2 * j)).toNat * (elem 8 (s.vr vb) (2 * j)).toNat)) ∧
    (VectorRule (.vmuleuh vd va vb) s [.vr vd] (fun t => ∀ j < 4, (elem 32 (t.vr vd) j).toNat =
      (elem 16 (s.vr va) (2 * j)).toNat * (elem 16 (s.vr vb) (2 * j)).toNat)) ∧
    (VectorRule (.vmulesb vd va vb) s [.vr vd] (fun t => ∀ j < 8, (elem 16 (t.vr vd) j).toInt =
      (elem 8 (s.vr va) (2 * j)).toInt * (elem 8 (s.vr vb) (2 * j)).toInt)) ∧
    (VectorRule (.vmulesh vd va vb) s [.vr vd] (fun t => ∀ j < 4, (elem 32 (t.vr vd) j).toInt =
      (elem 16 (s.vr va) (2 * j)).toInt * (elem 16 (s.vr vb) (2 * j)).toInt)) ∧
    (VectorRule (.vmuloub vd va vb) s [.vr vd] (fun t => ∀ j < 8, (elem 16 (t.vr vd) j).toNat =
      (elem 8 (s.vr va) (2 * j + 1)).toNat * (elem 8 (s.vr vb) (2 * j + 1)).toNat)) ∧
    (VectorRule (.vmulouh vd va vb) s [.vr vd] (fun t => ∀ j < 4, (elem 32 (t.vr vd) j).toNat =
      (elem 16 (s.vr va) (2 * j + 1)).toNat * (elem 16 (s.vr vb) (2 * j + 1)).toNat)) ∧
    (VectorRule (.vmulosb vd va vb) s [.vr vd] (fun t => ∀ j < 8, (elem 16 (t.vr vd) j).toInt =
      (elem 8 (s.vr va) (2 * j + 1)).toInt * (elem 8 (s.vr vb) (2 * j + 1)).toInt)) ∧
    (VectorRule (.vmulosh vd va vb) s [.vr vd] (fun t => ∀ j < 4, (elem 32 (t.vr vd) j).toInt =
      (elem 16 (s.vr va) (2 * j + 1)).toInt * (elem 16 (s.vr vb) (2 * j + 1)).toInt))

/-- vmladduhm gives a * b + c modulo 2^16 per half-word. vmsumubm, vmsummbm (vA signed, vB unsigned), vmsumuhm and
vmsumshm give, per word, the sum of the four byte or two half-word products and the word of vC modulo 2^32. Only vD
and the pc change; with MSR[SPV] = 0 AltiVec unavailable is raised. (R181, R182, R183, R184, R186.) -/
def Obligations.ModuloMultiplySumResults : Prop :=
  ∀ (s : State) (vd va vb vc : Reg),
    (VectorRule (.vmladduhm vd va vb vc) s [.vr vd] (fun t => ∀ j < 8, (half (t.vr vd) j).toNat =
      ((half (s.vr va) j).toNat * (half (s.vr vb) j).toNat + (half (s.vr vc) j).toNat) % 2 ^ 16)) ∧
    (VectorRule (.vmsumubm vd va vb vc) s [.vr vd] (fun t => ∀ j < 4,
      let a : Nat → Byte := fun k => byte (s.vr va) (4 * j + k)
      let b : Nat → Byte := fun k => byte (s.vr vb) (4 * j + k)
      (word (t.vr vd) j).toNat =
        ((a 0).toNat * (b 0).toNat + (a 1).toNat * (b 1).toNat + (a 2).toNat * (b 2).toNat + (a 3).toNat * (b 3).toNat + (word (s.vr vc) j).toNat) % 2 ^ 32)) ∧
    (VectorRule (.vmsummbm vd va vb vc) s [.vr vd] (fun t => ∀ j < 4,
      let a : Nat → Byte := fun k => byte (s.vr va) (4 * j + k)
      let b : Nat → Byte := fun k => byte (s.vr vb) (4 * j + k)
      ((word (t.vr vd) j).toNat : Int) =
        ((a 0).toInt * (b 0).toNat + (a 1).toInt * (b 1).toNat + (a 2).toInt * (b 2).toNat + (a 3).toInt * (b 3).toNat + (word (s.vr vc) j).toInt) % 2 ^ 32)) ∧
    (VectorRule (.vmsumuhm vd va vb vc) s [.vr vd] (fun t => ∀ j < 4,
      let a : Nat → Half := fun k => half (s.vr va) (2 * j + k)
      let b : Nat → Half := fun k => half (s.vr vb) (2 * j + k)
      (word (t.vr vd) j).toNat =
        ((a 0).toNat * (b 0).toNat + (a 1).toNat * (b 1).toNat + (word (s.vr vc) j).toNat) % 2 ^ 32)) ∧
    (VectorRule (.vmsumshm vd va vb vc) s [.vr vd] (fun t => ∀ j < 4,
      let a : Nat → Half := fun k => half (s.vr va) (2 * j + k)
      let b : Nat → Half := fun k => half (s.vr vb) (2 * j + k)
      ((word (t.vr vd) j).toNat : Int) =
        ((a 0).toInt * (b 0).toInt + (a 1).toInt * (b 1).toInt + (word (s.vr vc) j).toInt) % 2 ^ 32))

/-- vmhaddshs and vmhraddshs give floor((a * b + r) / 2^15) + c, r = 0 or 0x4000, clamped to 16 signed bits; vmsumuhs and
vmsumshs give the sum of the two products and the word of vC, added exactly, clamped to 32 unsigned or signed bits;
SAT is set exactly where a result was out of range and else keeps its value. Only vD, SAT and the pc change; with
MSR[SPV] = 0 AltiVec unavailable is raised. (R179, R180, R185, R187.) -/
def Obligations.SaturatingMultiplySumResults : Prop :=
  ∀ (s : State) (vd va vb vc : Reg),
    (VectorRule (.vmhaddshs vd va vb vc) s [.vr vd, .sat] (fun t =>
      let x : Nat → Int := fun j =>
        ((half (s.vr va) j).toInt * (half (s.vr vb) j).toInt) / 2 ^ 15 + (half (s.vr vc) j).toInt
      (∀ j < 8, (half (t.vr vd) j).toInt = clampS 16 (x j)) ∧ SatAfter s t 8 fun j => outS 16 (x j))) ∧
    (VectorRule (.vmhraddshs vd va vb vc) s [.vr vd, .sat] (fun t =>
      let x : Nat → Int := fun j =>
        ((half (s.vr va) j).toInt * (half (s.vr vb) j).toInt + 0x4000) / 2 ^ 15 + (half (s.vr vc) j).toInt
      (∀ j < 8, (half (t.vr vd) j).toInt = clampS 16 (x j)) ∧ SatAfter s t 8 fun j => outS 16 (x j))) ∧
    (VectorRule (.vmsumuhs vd va vb vc) s [.vr vd, .sat] (fun t =>
      let x : Nat → Int := fun j => ((half (s.vr va) (2 * j)).toNat : Int) * (half (s.vr vb) (2 * j)).toNat +
        ((half (s.vr va) (2 * j + 1)).toNat : Int) * (half (s.vr vb) (2 * j + 1)).toNat + (word (s.vr vc) j).toNat
      (∀ j < 4, ((word (t.vr vd) j).toNat : Int) = clampU 32 (x j)) ∧ SatAfter s t 4 fun j => outU 32 (x j))) ∧
    (VectorRule (.vmsumshs vd va vb vc) s [.vr vd, .sat] (fun t =>
      let x : Nat → Int := fun j => (half (s.vr va) (2 * j)).toInt * (half (s.vr vb) (2 * j)).toInt +
        (half (s.vr va) (2 * j + 1)).toInt * (half (s.vr vb) (2 * j + 1)).toInt + (word (s.vr vc) j).toInt
      (∀ j < 4, (word (t.vr vd) j).toInt = clampS 32 (x j)) ∧ SatAfter s t 4 fun j => outS 32 (x j)))

/-- vsumsws puts the clamped sum of the four words of vA and word 3 of vB in word 3 and zeros elsewhere; vsum2sws the two
three-term sums in words 1 and 3 and zeros elsewhere; vsum4ubs, vsum4sbs and vsum4shs the sums of each word position's
bytes or half-words and the word of vB. SAT is set exactly where an exact sum is out of range. Only vD, SAT and the pc
change; with MSR[SPV] = 0 AltiVec unavailable is raised. (R188, R189, R190, R191, R192.) -/
def Obligations.SumAcrossResults : Prop :=
  ∀ (s : State) (vd va vb : Reg),
    (VectorRule (.vsumsws vd va vb) s [.vr vd, .sat] (fun t =>
      let x : Int := (word (s.vr va) 0).toInt + (word (s.vr va) 1).toInt + (word (s.vr va) 2).toInt +
        (word (s.vr va) 3).toInt + (word (s.vr vb) 3).toInt
      word (t.vr vd) 0 = 0 ∧ word (t.vr vd) 1 = 0 ∧ word (t.vr vd) 2 = 0 ∧ (word (t.vr vd) 3).toInt = clampS 32 x ∧
      (t.sat = true ↔ s.sat = true ∨ outS 32 x))) ∧
    (VectorRule (.vsum2sws vd va vb) s [.vr vd, .sat] (fun t =>
      let x : Nat → Int := fun j =>
        (word (s.vr va) (2 * j)).toInt + (word (s.vr va) (2 * j + 1)).toInt + (word (s.vr vb) (2 * j + 1)).toInt
      (∀ j < 2, word (t.vr vd) (2 * j) = 0 ∧ (word (t.vr vd) (2 * j + 1)).toInt = clampS 32 (x j)) ∧
      SatAfter s t 2 fun j => outS 32 (x j))) ∧
    (VectorRule (.vsum4ubs vd va vb) s [.vr vd, .sat] (fun t =>
      let x : Nat → Int := fun j => ((byte (s.vr va) (4 * j)).toNat : Int) + ((byte (s.vr va) (4 * j + 1)).toNat : Int)
        + ((byte (s.vr va) (4 * j + 2)).toNat : Int) + ((byte (s.vr va) (4 * j + 3)).toNat : Int) + (word (s.vr vb) j).toNat
      (∀ j < 4, ((word (t.vr vd) j).toNat : Int) = clampU 32 (x j)) ∧ SatAfter s t 4 fun j => outU 32 (x j))) ∧
    (VectorRule (.vsum4sbs vd va vb) s [.vr vd, .sat] (fun t =>
      let x : Nat → Int := fun j => (byte (s.vr va) (4 * j)).toInt + (byte (s.vr va) (4 * j + 1)).toInt
        + (byte (s.vr va) (4 * j + 2)).toInt + (byte (s.vr va) (4 * j + 3)).toInt + (word (s.vr vb) j).toInt
      (∀ j < 4, (word (t.vr vd) j).toInt = clampS 32 (x j)) ∧ SatAfter s t 4 fun j => outS 32 (x j))) ∧
    (VectorRule (.vsum4shs vd va vb) s [.vr vd, .sat] (fun t =>
      let x : Nat → Int := fun j => (half (s.vr va) (2 * j)).toInt + (half (s.vr va) (2 * j + 1)).toInt + (word (s.vr vb) j).toInt
      (∀ j < 4, (word (t.vr vd) j).toInt = clampS 32 (x j)) ∧ SatAfter s t 4 fun j => outS 32 (x j)))

/-- Each element of vD is all ones where the relation holds and zero where it does not; with Rc = 1 CR6 is (all hold) || 0
|| (none holds) || 0 and the other CR fields stay; with Rc = 0 the CR stays. Only vD, CR6 and the pc change; with
MSR[SPV] = 0 AltiVec unavailable is raised. (R201, R202, R203, R204, R205, R206, R207, R208, R209.) -/
def Obligations.IntegerCompareResults : Prop :=
  ∀ (s : State) (vd va vb : Reg) (rc : Bool),
    (CompareRule (.vcmpequb vd va vb rc) 8 16 s vd va vb rc (fun a b => a = b)) ∧
    (CompareRule (.vcmpequh vd va vb rc) 16 8 s vd va vb rc (fun a b => a = b)) ∧
    (CompareRule (.vcmpequw vd va vb rc) 32 4 s vd va vb rc (fun a b => a = b)) ∧
    (CompareRule (.vcmpgtub vd va vb rc) 8 16 s vd va vb rc (fun a b => b.toNat < a.toNat)) ∧
    (CompareRule (.vcmpgtuh vd va vb rc) 16 8 s vd va vb rc (fun a b => b.toNat < a.toNat)) ∧
    (CompareRule (.vcmpgtuw vd va vb rc) 32 4 s vd va vb rc (fun a b => b.toNat < a.toNat)) ∧
    (CompareRule (.vcmpgtsb vd va vb rc) 8 16 s vd va vb rc (fun a b => b.toInt < a.toInt)) ∧
    (CompareRule (.vcmpgtsh vd va vb rc) 16 8 s vd va vb rc (fun a b => b.toInt < a.toInt)) ∧
    (CompareRule (.vcmpgtsw vd va vb rc) 32 4 s vd va vb rc (fun a b => b.toInt < a.toInt))

/-- Each of the 128 bits of vD is the AND, AND with complement, OR, XOR or NOR of the same bits of vA and vB. Only vD and
the pc change; with MSR[SPV] = 0 AltiVec unavailable is raised. (R211, R212, R213, R214, R215.) -/
def Obligations.LogicalResults : Prop :=
  ∀ (s : State) (vd va vb : Reg),
    (VectorRule (.vand vd va vb) s [.vr vd] (fun t =>
      ∀ j < 128, (t.vr vd).getLsbD j = ((s.vr va).getLsbD j && (s.vr vb).getLsbD j))) ∧
    (VectorRule (.vandc vd va vb) s [.vr vd] (fun t =>
      ∀ j < 128, (t.vr vd).getLsbD j = ((s.vr va).getLsbD j && !(s.vr vb).getLsbD j))) ∧
    (VectorRule (.vor vd va vb) s [.vr vd] (fun t =>
      ∀ j < 128, (t.vr vd).getLsbD j = ((s.vr va).getLsbD j || (s.vr vb).getLsbD j))) ∧
    (VectorRule (.vxor vd va vb) s [.vr vd] (fun t =>
      ∀ j < 128, (t.vr vd).getLsbD j = ((s.vr va).getLsbD j != (s.vr vb).getLsbD j))) ∧
    (VectorRule (.vnor vd va vb) s [.vr vd] (fun t =>
      ∀ j < 128, (t.vr vd).getLsbD j = !((s.vr va).getLsbD j || (s.vr vb).getLsbD j)))

/-- Each element of vA is rotated left, shifted left or right with zeros, or shifted right with the sign, by the vB
element modulo the element width; given as arithmetic on the element's value. Only vD and the pc change; with MSR[SPV]
= 0 AltiVec unavailable is raised. (R217, R218, R219, R220, R221, R222, R223, R224, R225, R226, R227, R228.) -/
def Obligations.RotateShiftResults : Prop :=
  ∀ (s : State) (vd va vb : Reg),
    (VectorRule (.vrlb vd va vb) s [.vr vd] (fun t => Elems2 8 16 s t vd va vb fun a b d =>
      d.toNat = a.toNat * 2 ^ (b.toNat % 8) % 2 ^ 8 + a.toNat / 2 ^ (8 - b.toNat % 8))) ∧
    (VectorRule (.vrlh vd va vb) s [.vr vd] (fun t => Elems2 16 8 s t vd va vb fun a b d =>
      d.toNat = a.toNat * 2 ^ (b.toNat % 16) % 2 ^ 16 + a.toNat / 2 ^ (16 - b.toNat % 16))) ∧
    (VectorRule (.vrlw vd va vb) s [.vr vd] (fun t => Elems2 32 4 s t vd va vb fun a b d =>
      d.toNat = a.toNat * 2 ^ (b.toNat % 32) % 2 ^ 32 + a.toNat / 2 ^ (32 - b.toNat % 32))) ∧
    (VectorRule (.vslb vd va vb) s [.vr vd] (fun t => Elems2 8 16 s t vd va vb fun a b d =>
      d.toNat = a.toNat * 2 ^ (b.toNat % 8) % 2 ^ 8)) ∧
    (VectorRule (.vslh vd va vb) s [.vr vd] (fun t => Elems2 16 8 s t vd va vb fun a b d =>
      d.toNat = a.toNat * 2 ^ (b.toNat % 16) % 2 ^ 16)) ∧
    (VectorRule (.vslw vd va vb) s [.vr vd] (fun t => Elems2 32 4 s t vd va vb fun a b d =>
      d.toNat = a.toNat * 2 ^ (b.toNat % 32) % 2 ^ 32)) ∧
    (VectorRule (.vsrb vd va vb) s [.vr vd] (fun t => Elems2 8 16 s t vd va vb fun a b d =>
      d.toNat = a.toNat / 2 ^ (b.toNat % 8))) ∧
    (VectorRule (.vsrh vd va vb) s [.vr vd] (fun t => Elems2 16 8 s t vd va vb fun a b d =>
      d.toNat = a.toNat / 2 ^ (b.toNat % 16))) ∧
    (VectorRule (.vsrw vd va vb) s [.vr vd] (fun t => Elems2 32 4 s t vd va vb fun a b d =>
      d.toNat = a.toNat / 2 ^ (b.toNat % 32))) ∧
    (VectorRule (.vsrab vd va vb) s [.vr vd] (fun t => Elems2 8 16 s t vd va vb fun a b d =>
      d.toInt = a.toInt / 2 ^ (b.toNat % 8))) ∧
    (VectorRule (.vsrah vd va vb) s [.vr vd] (fun t => Elems2 16 8 s t vd va vb fun a b d =>
      d.toInt = a.toInt / 2 ^ (b.toNat % 16))) ∧
    (VectorRule (.vsraw vd va vb) s [.vr vd] (fun t => Elems2 32 4 s t vd va vb fun a b d =>
      d.toInt = a.toInt / 2 ^ (b.toNat % 32)))

/-- Element j of vD is the low-order half of element j of the concatenation vA || vB (vpkuhum, vpkuwum); vpkpx keeps bit 7
and the five high bits of each of the last three bytes of each word, bits numbered from the most significant. Only vD
and the pc change; with MSR[SPV] = 0 AltiVec unavailable is raised. (R351, R352, R359.) -/
def Obligations.ModuloPackResults : Prop :=
  ∀ (s : State) (vd va vb : Reg),
    (VectorRule (.vpkuhum vd va vb) s [.vr vd] (fun t => ∀ j < 16, (byte (t.vr vd) j).toNat =
      (half (s.vr (if j < 8 then va else vb)) (j % 8)).toNat % 2 ^ 8)) ∧
    (VectorRule (.vpkuwum vd va vb) s [.vr vd] (fun t => ∀ j < 8, (half (t.vr vd) j).toNat =
      (word (s.vr (if j < 4 then va else vb)) (j % 4)).toNat % 2 ^ 16)) ∧
    (VectorRule (.vpkpx vd va vb) s [.vr vd] (fun t => ∀ j < 8,
      let w := word (s.vr (if j < 4 then va else vb)) (j % 4)
      let h := half (t.vr vd) j
      h.getMsbD 0 = w.getMsbD 7 ∧ ∀ k < 5, h.getMsbD (1 + k) = w.getMsbD (8 + k) ∧
        h.getMsbD (6 + k) = w.getMsbD (16 + k) ∧ h.getMsbD (11 + k) = w.getMsbD (24 + k)))

/-- Element j of vD is element j of the concatenation vA || vB, unsigned or signed, clamped to the unsigned or signed
range of the half-width element; SAT is set exactly where some source element is out of that range. Only vD, SAT and
the pc change; with MSR[SPV] = 0 AltiVec unavailable is raised. (R353, R354, R355, R356, R357, R358.) -/
def Obligations.SaturatingPackResults : Prop :=
  ∀ (s : State) (vd va vb : Reg),
    (VectorRule (.vpkuhus vd va vb) s [.vr vd, .sat] (fun t =>
      let x : Nat → Int := fun j => (half (s.vr (if j < 8 then va else vb)) (j % 8)).toNat
      (∀ j < 16, ((byte (t.vr vd) j).toNat : Int) = clampU 8 (x j)) ∧ SatAfter s t 16 fun j => outU 8 (x j))) ∧
    (VectorRule (.vpkuwus vd va vb) s [.vr vd, .sat] (fun t =>
      let x : Nat → Int := fun j => (word (s.vr (if j < 4 then va else vb)) (j % 4)).toNat
      (∀ j < 8, ((half (t.vr vd) j).toNat : Int) = clampU 16 (x j)) ∧ SatAfter s t 8 fun j => outU 16 (x j))) ∧
    (VectorRule (.vpkshus vd va vb) s [.vr vd, .sat] (fun t =>
      let x : Nat → Int := fun j => (half (s.vr (if j < 8 then va else vb)) (j % 8)).toInt
      (∀ j < 16, ((byte (t.vr vd) j).toNat : Int) = clampU 8 (x j)) ∧ SatAfter s t 16 fun j => outU 8 (x j))) ∧
    (VectorRule (.vpkswus vd va vb) s [.vr vd, .sat] (fun t =>
      let x : Nat → Int := fun j => (word (s.vr (if j < 4 then va else vb)) (j % 4)).toInt
      (∀ j < 8, ((half (t.vr vd) j).toNat : Int) = clampU 16 (x j)) ∧ SatAfter s t 8 fun j => outU 16 (x j))) ∧
    (VectorRule (.vpkshss vd va vb) s [.vr vd, .sat] (fun t =>
      let x : Nat → Int := fun j => (half (s.vr (if j < 8 then va else vb)) (j % 8)).toInt
      (∀ j < 16, (byte (t.vr vd) j).toInt = clampS 8 (x j)) ∧ SatAfter s t 16 fun j => outS 8 (x j))) ∧
    (VectorRule (.vpkswss vd va vb) s [.vr vd, .sat] (fun t =>
      let x : Nat → Int := fun j => (word (s.vr (if j < 4 then va else vb)) (j % 4)).toInt
      (∀ j < 8, (half (t.vr vd) j).toInt = clampS 16 (x j)) ∧ SatAfter s t 8 fun j => outS 16 (x j)))

/-- Element j of vD is element j (high forms) or the j-th element of the second half (low forms) of vB, sign-extended to
twice the width; the pixel forms give 0xFF or 0x00 for the first bit and the three 5-bit fields in the low bits of the
three other bytes. Only vD and the pc change; with MSR[SPV] = 0 AltiVec unavailable is raised. (R360, R361, R362,
R363, R364, R365.) -/
def Obligations.UnpackResults : Prop :=
  ∀ (s : State) (vd vb : Reg),
    (VectorRule (.vupkhsb vd vb) s [.vr vd] (fun t => ∀ j < 8, (half (t.vr vd) j).toInt = (byte (s.vr vb) (j)).toInt)) ∧
    (VectorRule (.vupkhsh vd vb) s [.vr vd] (fun t => ∀ j < 4, (word (t.vr vd) j).toInt = (half (s.vr vb) (j)).toInt)) ∧
    (VectorRule (.vupklsb vd vb) s [.vr vd] (fun t => ∀ j < 8, (half (t.vr vd) j).toInt = (byte (s.vr vb) (8 + j)).toInt)) ∧
    (VectorRule (.vupklsh vd vb) s [.vr vd] (fun t => ∀ j < 4, (word (t.vr vd) j).toInt = (half (s.vr vb) (4 + j)).toInt)) ∧
    (VectorRule (.vupkhpx vd vb) s [.vr vd] (fun t => ∀ j < 4,
      let h := (half (s.vr vb) (j)).toNat
      (word (t.vr vd) j).toNat =
        (if 2 ^ 15 ≤ h then 0xFF000000 else 0) + h / 2 ^ 10 % 32 * 2 ^ 16 + h / 2 ^ 5 % 32 * 2 ^ 8 + h % 32)) ∧
    (VectorRule (.vupklpx vd vb) s [.vr vd] (fun t => ∀ j < 4,
      let h := (half (s.vr vb) (4 + j)).toNat
      (word (t.vr vd) j).toNat =
        (if 2 ^ 15 ≤ h then 0xFF000000 else 0) + h / 2 ^ 10 % 32 * 2 ^ 16 + h / 2 ^ 5 % 32 * 2 ^ 8 + h % 32))

/-- The even elements of vD are the elements of the high (or low) half of vA in order and the odd ones those of vB. Only
vD and the pc change; with MSR[SPV] = 0 AltiVec unavailable is raised. (R366, R367, R368, R369, R370, R371.) -/
def Obligations.MergeResults : Prop :=
  ∀ (s : State) (vd va vb : Reg),
    (VectorRule (.vmrghb vd va vb) s [.vr vd] (fun t => ∀ j < 8, byte (t.vr vd) (2 * j) = byte (s.vr va) j ∧
      byte (t.vr vd) (2 * j + 1) = byte (s.vr vb) j)) ∧
    (VectorRule (.vmrghh vd va vb) s [.vr vd] (fun t => ∀ j < 4, half (t.vr vd) (2 * j) = half (s.vr va) j ∧
      half (t.vr vd) (2 * j + 1) = half (s.vr vb) j)) ∧
    (VectorRule (.vmrghw vd va vb) s [.vr vd] (fun t => ∀ j < 2, word (t.vr vd) (2 * j) = word (s.vr va) j ∧
      word (t.vr vd) (2 * j + 1) = word (s.vr vb) j)) ∧
    (VectorRule (.vmrglb vd va vb) s [.vr vd] (fun t => ∀ j < 8, byte (t.vr vd) (2 * j) = byte (s.vr va) (8 + j) ∧
      byte (t.vr vd) (2 * j + 1) = byte (s.vr vb) (8 + j))) ∧
    (VectorRule (.vmrglh vd va vb) s [.vr vd] (fun t => ∀ j < 4, half (t.vr vd) (2 * j) = half (s.vr va) (4 + j) ∧
      half (t.vr vd) (2 * j + 1) = half (s.vr vb) (4 + j))) ∧
    (VectorRule (.vmrglw vd va vb) s [.vr vd] (fun t => ∀ j < 2, word (t.vr vd) (2 * j) = word (s.vr va) (2 + j) ∧
      word (t.vr vd) (2 * j + 1) = word (s.vr vb) (2 + j)))

/-- Every element of vD is element UIMM of vB, or the 5-bit immediate as a signed integer of the element width. Only vD
and the pc change; with MSR[SPV] = 0 AltiVec unavailable is raised. (R372, R373, R374, R375, R376, R377.) -/
def Obligations.SplatResults : Prop :=
  ∀ (s : State) (vd vb : Reg),
    (∀ u : BitVec 4, VectorRule (.vspltb vd vb u) s [.vr vd] (fun t => ∀ j < 16, byte (t.vr vd) j = byte (s.vr vb) u.toNat)) ∧
    (∀ u : BitVec 3, VectorRule (.vsplth vd vb u) s [.vr vd] (fun t => ∀ j < 8, half (t.vr vd) j = half (s.vr vb) u.toNat)) ∧
    (∀ u : BitVec 2, VectorRule (.vspltw vd vb u) s [.vr vd] (fun t => ∀ j < 4, word (t.vr vd) j = word (s.vr vb) u.toNat)) ∧
    (∀ i : BitVec 5, VectorRule (.vspltisb vd i) s [.vr vd] (fun t => ∀ j < 16, (byte (t.vr vd) j).toInt = i.toInt)) ∧
    (∀ i : BitVec 5, VectorRule (.vspltish vd i) s [.vr vd] (fun t => ∀ j < 8, (half (t.vr vd) j).toInt = i.toInt)) ∧
    (∀ i : BitVec 5, VectorRule (.vspltisw vd i) s [.vr vd] (fun t => ∀ j < 4, (word (t.vr vd) j).toInt = i.toInt))

/-- Byte j of vD is the byte of vA || vB that the low five bits of byte j of vC number (vperm) or byte SHB + j of vA || vB
(vsldoi); each bit of vD is that of vB where the bit of vC is 1 and that of vA where it is 0 (vsel). Only vD and the
pc change; with MSR[SPV] = 0 AltiVec unavailable is raised. (R378, R379, R384.) -/
def Obligations.PermuteSelectResults : Prop :=
  ∀ (s : State) (vd va vb vc : Reg),
    (VectorRule (.vperm vd va vb vc) s [.vr vd] (fun t => ∀ j < 16,
      let k := (byte (s.vr vc) j).toNat % 32
      byte (t.vr vd) j = if k < 16 then byte (s.vr va) k else byte (s.vr vb) (k - 16))) ∧
    (VectorRule (.vsel vd va vb vc) s [.vr vd] (fun t => ∀ j < 128, (t.vr vd).getLsbD j =
      if (s.vr vc).getLsbD j then (s.vr vb).getLsbD j else (s.vr va).getLsbD j)) ∧
    (∀ n : BitVec 4, VectorRule (.vsldoi vd va vb n) s [.vr vd] (fun t => ∀ j < 16,
      let k := n.toNat + j
      byte (t.vr vd) j = if k < 16 then byte (s.vr va) k else byte (s.vr vb) (k - 16)))

/-- vsl and vsr shift vA by 0 to 7 bits where the low three bits of all 16 bytes of vB agree; where they do not the
instruction still completes and vD alone is left open. vslo and vsro shift by the octet count in bits 121 to 124 of
vB. Only vD (and the model's count of free values) and the pc change; with MSR[SPV] = 0 AltiVec unavailable is raised.
(R380, R381, R382, R383.) -/
def Obligations.LongShiftResults : Prop :=
  ∀ (s : State) (vd va vb : Reg),
    (VectorRule (.vsl vd va vb) s [.vr vd, .draws] (fun t =>
      (∀ j < 16, (byte (s.vr vb) j).toNat % 8 = (s.vr vb).toNat % 8) →
        (t.vr vd).toNat = (s.vr va).toNat * 2 ^ ((s.vr vb).toNat % 8) % 2 ^ 128 ∧ t.freeCtr = s.freeCtr)) ∧
    (VectorRule (.vsr vd va vb) s [.vr vd, .draws] (fun t =>
      (∀ j < 16, (byte (s.vr vb) j).toNat % 8 = (s.vr vb).toNat % 8) →
        (t.vr vd).toNat = (s.vr va).toNat / 2 ^ ((s.vr vb).toNat % 8) ∧ t.freeCtr = s.freeCtr)) ∧
    (VectorRule (.vslo vd va vb) s [.vr vd] (fun t =>
      (t.vr vd).toNat = (s.vr va).toNat * 2 ^ (8 * ((s.vr vb).toNat / 8 % 16)) % 2 ^ 128)) ∧
    (VectorRule (.vsro vd va vb) s [.vr vd] (fun t =>
      (t.vr vd).toNat = (s.vr va).toNat / 2 ^ (8 * ((s.vr vb).toNat / 8 % 16))))

/-- EA is GPR[rB] plus GPR[rA], or plus 0 where the rA field is 0, modulo 2^64 in 64-bit mode and 2^32 in 32-bit mode;
forced alignment to 2^k takes the address down to a multiple of 2^k. Where the platform gives no translation entry, a
translation answers the address itself with no attribute: the default of rule R66 and of decisions D12 and D13, as the
model's table of entries gives it (log entry 5). (20_memory.md R55, 20_memory.md R56, 20_memory.md R66, 00_scope.md
R7, 92_eei_decisions.md D12, 92_eei_decisions.md D13.) -/
def Obligations.EffectiveAddressAndAlignment : Prop :=
  ∀ (s : State) (ra rb : Reg) (k : Nat) (a : DWord) (kind : AccessKind) (c : AccessCtx),
    (s.ea ra rb).toNat =
      ((if ra = 0 then 0 else (s.gpr ra).toNat) + (s.gpr rb).toNat) % (if s.is64 then 2 ^ 64 else 2 ^ 32) ∧
    (k < 64 → (alignDown k a).toNat = a.toNat - a.toNat % 2 ^ k) ∧
    (s.xlat = [] → s.translate a kind c = .ok a MemAttr.plain)

/-- With MSR[SPV] = 1 and a successful translation of the aligned address: lvebx, lvehx and lvewx put the bytes in the
element the address selects (nothing is said of the rest of vD: it is undefined); lvexbx, lvexhx and lvexwx put them
in the element that the low four bits of GPR[rB] select and zero the rest. Only vD and the pc change (and the model's
count of free values); memory is not changed. (44_load_store.md R292, R293, R294, R298, R299, R300, 20_memory.md R52,
20_memory.md R58.) -/
def Obligations.ElementLoadResults : Prop :=
  ∀ (s : State) (v ra rb : Reg) (real : DWord) (m : MemAttr), s.spv = true →
    (s.translate (s.ea ra rb) .load s.normalCtx = .ok real m →
      Completes (.lvebx v ra rb) s [.vr v, .draws] fun t =>
        ∀ k < 1, byte (t.vr v) (low4 (s.ea ra rb) + k) = s.byteAt real k) ∧
    (s.translate (alignDown 1 (s.ea ra rb)) .load s.normalCtx = .ok real m →
      Completes (.lvehx v ra rb) s [.vr v, .draws] fun t =>
        ∀ k < 2, byte (t.vr v) (low4 (alignDown 1 (s.ea ra rb)) + k) = s.byteAt real k) ∧
    (s.translate (alignDown 2 (s.ea ra rb)) .load s.normalCtx = .ok real m →
      Completes (.lvewx v ra rb) s [.vr v, .draws] fun t =>
        ∀ k < 4, byte (t.vr v) (low4 (alignDown 2 (s.ea ra rb)) + k) = s.byteAt real k) ∧
    (s.translate (s.ea ra rb) .load s.normalCtx = .ok real m →
      Completes (.lvexbx v ra rb) s [.vr v] fun t =>
        let e := low4 (s.gpr rb) / 1 * 1
        ∀ j < 16, byte (t.vr v) j = if e ≤ j ∧ j < e + 1 then s.byteAt real (j - e) else 0) ∧
    (s.translate (alignDown 1 (s.ea ra rb)) .load s.normalCtx = .ok real m →
      Completes (.lvexhx v ra rb) s [.vr v] fun t =>
        let e := low4 (s.gpr rb) / 2 * 2
        ∀ j < 16, byte (t.vr v) j = if e ≤ j ∧ j < e + 2 then s.byteAt real (j - e) else 0) ∧
    (s.translate (alignDown 2 (s.ea ra rb)) .load s.normalCtx = .ok real m →
      Completes (.lvexwx v ra rb) s [.vr v] fun t =>
        let e := low4 (s.gpr rb) / 4 * 4
        ∀ j < 16, byte (t.vr v) j = if e ≤ j ∧ j < e + 4 then s.byteAt real (j - e) else 0)

/-- With MSR[SPV] = 1, memory in canonical form and a successful translation of the aligned address to a real address:
stvebx, stvehx and stvewx store the element the address selects, stvexbx, stvexhx and stvexwx the element that the low
four bits of GPR[rB] select, to the 1, 2 or 4 bytes from the real address on; every other byte of memory, every
register and every flag is unchanged. That memory has its canonical form is part of the invariant every step keeps
(EveryStepKeepsInvariant). (44_load_store.md R305, R306, R307, R310, R311, R312, 20_memory.md R52, 20_memory.md R58.) -/
def Obligations.ElementStoreResults : Prop :=
  ∀ (s : State) (v ra rb : Reg) (real : DWord) (m : MemAttr), s.spv = true →
    Memory.wf s.mem →
    (s.translate (s.ea ra rb) .store s.normalCtx = .ok real m →
      Completes (.stvebx v ra rb) s [.bytes real 1] fun t =>
        ∀ k < 1, t.byteAt real k = byte (s.vr v) (low4 (s.ea ra rb) + k)) ∧
    (s.translate (alignDown 1 (s.ea ra rb)) .store s.normalCtx = .ok real m →
      Completes (.stvehx v ra rb) s [.bytes real 2] fun t =>
        ∀ k < 2, t.byteAt real k = byte (s.vr v) (low4 (alignDown 1 (s.ea ra rb)) + k)) ∧
    (s.translate (alignDown 2 (s.ea ra rb)) .store s.normalCtx = .ok real m →
      Completes (.stvewx v ra rb) s [.bytes real 4] fun t =>
        ∀ k < 4, t.byteAt real k = byte (s.vr v) (low4 (alignDown 2 (s.ea ra rb)) + k)) ∧
    (s.translate (s.ea ra rb) .store s.normalCtx = .ok real m →
      Completes (.stvexbx v ra rb) s [.bytes real 1] fun t =>
        ∀ k < 1, t.byteAt real k = byte (s.vr v) (low4 (s.gpr rb) / 1 * 1 + k)) ∧
    (s.translate (alignDown 1 (s.ea ra rb)) .store s.normalCtx = .ok real m →
      Completes (.stvexhx v ra rb) s [.bytes real 2] fun t =>
        ∀ k < 2, t.byteAt real k = byte (s.vr v) (low4 (s.gpr rb) / 2 * 2 + k)) ∧
    (s.translate (alignDown 2 (s.ea ra rb)) .store s.normalCtx = .ok real m →
      Completes (.stvexwx v ra rb) s [.bytes real 4] fun t =>
        ∀ k < 4, t.byteAt real k = byte (s.vr v) (low4 (s.gpr rb) / 4 * 4 + k))

/-- With MSR[SPV] = 1 and a successful translation of EA with its last four bits clear (in the EPLC context for lvepx and
lvepxl, which also need category E.PD and supervisor state), byte j of vD is the byte at the real address plus j,
whatever the attributes of the address, a little-endian page included. Only vD and the pc change; the l forms do the
same. (44_load_store.md R295, R297, R303, R304, 20_memory.md R52, 20_memory.md R53, 10_state.md R40.) -/
def Obligations.VectorLoadResults : Prop :=
  ∀ (s : State) (v ra rb : Reg) (real : DWord) (m : MemAttr), s.spv = true →
    (s.translate (alignDown 4 (s.ea ra rb)) .load s.normalCtx = .ok real m →
      ∀ i ∈ [Instr.lvx v ra rb, .lvxl v ra rb],
        Completes i s [.vr v] fun t => ∀ j < 16, byte (t.vr v) j = s.byteAt real j) ∧
    (s.cfg.hasEPD = true → s.prBit = false →
      s.translate (alignDown 4 (s.ea ra rb)) .load (s.externalCtx s.eplc) = .ok real m →
      ∀ i ∈ [Instr.lvepx v ra rb, .lvepxl v ra rb],
        Completes i s [.vr v] fun t => ∀ j < 16, byte (t.vr v) j = s.byteAt real j)

/-- With MSR[SPV] = 1, memory in canonical form and a successful translation of EA with its last four bits clear (in the
EPSC context for stvepx and stvepxl, which also need category E.PD and supervisor state), the 16 bytes from the real
address on are those of vS, the most significant first, whatever the attributes of the address, a little-endian page
included; every other byte of memory, every register and every flag is unchanged. That memory has its canonical form
is part of the invariant every step keeps (EveryStepKeepsInvariant). (44_load_store.md R308, R309, R313, R314,
20_memory.md R52, 20_memory.md R53, 10_state.md R40.) -/
def Obligations.VectorStoreResults : Prop :=
  ∀ (s : State) (v ra rb : Reg) (real : DWord) (m : MemAttr), s.spv = true →
    Memory.wf s.mem →
    (s.translate (alignDown 4 (s.ea ra rb)) .store s.normalCtx = .ok real m →
      ∀ i ∈ [Instr.stvx v ra rb, .stvxl v ra rb],
        Completes i s [.bytes real 16] fun t => ∀ j < 16, t.byteAt real j = byte (s.vr v) j) ∧
    (s.cfg.hasEPD = true → s.prBit = false →
      s.translate (alignDown 4 (s.ea ra rb)) .store (s.externalCtx s.epsc) = .ok real m →
      ∀ i ∈ [Instr.stvepx v ra rb, .stvepxl v ra rb],
        Completes i s [.bytes real 16] fun t => ∀ j < 16, t.byteAt real j = byte (s.vr v) j)

/-- With MSR[SPV] = 1, a successful translation and, for the left and right forms, no alignment interrupt due, with p the
low four bits of EA: lvtlx puts the 16 - p bytes from EA on left-justified, zeros after; lvtrx puts the p bytes before
EA in its quad word right-justified, zeros before (p = 0: vD is 0); lvswx puts the quad word rotated left by p bytes.
Only vD and the pc change; the l forms do the same. (45_load_store_misaligned.md R327, R328, R329, R330, R331, R332,
R333.) -/
def Obligations.PartialLoadResults : Prop :=
  ∀ (s : State) (v ra rb : Reg) (real : DWord) (m : MemAttr), s.spv = true →
    (s.alignmentDue (s.ea ra rb) .load = false → s.translate (s.ea ra rb) .load s.normalCtx = .ok real m →
      ∀ i ∈ [Instr.lvtlx v ra rb, .lvtlxl v ra rb],
        Completes i s [.vr v] fun t => ∀ j < 16,
          byte (t.vr v) j = if j < 16 - low4 (s.ea ra rb) then s.byteAt real j else 0) ∧
    (s.alignmentDue (s.ea ra rb) .load = false → s.translate (alignDown 4 (s.ea ra rb)) .load s.normalCtx = .ok real m →
      ∀ i ∈ [Instr.lvtrx v ra rb, .lvtrxl v ra rb],
        Completes i s [.vr v] fun t => ∀ j < 16,
          byte (t.vr v) j =
            if 16 - low4 (s.ea ra rb) ≤ j then s.byteAt real (j - (16 - low4 (s.ea ra rb))) else 0) ∧
    (s.translate (alignDown 4 (s.ea ra rb)) .load s.normalCtx = .ok real m →
      ∀ i ∈ [Instr.lvswx v ra rb, .lvswxl v ra rb],
        Completes i s [.vr v] fun t => ∀ j < 16,
          byte (t.vr v) j = s.byteAt real ((j + low4 (s.ea ra rb)) % 16))

/-- With MSR[SPV] = 1, memory in canonical form, a successful translation and, for the left and right forms, no alignment
interrupt due, with p the low four bits of EA: stvflx writes bytes 0 to 15 - p of vS from EA on; stvfrx writes the
last p bytes of vS to the p bytes of the quad word before EA (p = 0: none); stvswx writes byte j of vS to byte (j + p)
mod 16 of the quad word. Every other byte of memory, every register and every flag is unchanged; the l forms do the
same. That memory has its canonical form is part of the invariant every step keeps (EveryStepKeepsInvariant).
(45_load_store_misaligned.md R329, R337, R338, R339, R340, R341, R342.) -/
def Obligations.PartialStoreResults : Prop :=
  ∀ (s : State) (v ra rb : Reg) (real : DWord) (m : MemAttr), s.spv = true →
    Memory.wf s.mem →
    (s.alignmentDue (s.ea ra rb) .store = false → s.translate (s.ea ra rb) .store s.normalCtx = .ok real m →
      ∀ i ∈ [Instr.stvflx v ra rb, .stvflxl v ra rb],
        Completes i s [.bytes real (16 - low4 (s.ea ra rb))] fun t =>
          ∀ j < 16 - low4 (s.ea ra rb), t.byteAt real j = byte (s.vr v) j) ∧
    (s.alignmentDue (s.ea ra rb) .store = false → s.translate (alignDown 4 (s.ea ra rb)) .store s.normalCtx = .ok real m →
      ∀ i ∈ [Instr.stvfrx v ra rb, .stvfrxl v ra rb],
        Completes i s [.bytes real (low4 (s.ea ra rb))] fun t =>
          ∀ j < low4 (s.ea ra rb), t.byteAt real j = byte (s.vr v) (16 - low4 (s.ea ra rb) + j)) ∧
    (s.translate (alignDown 4 (s.ea ra rb)) .store s.normalCtx = .ok real m →
      ∀ i ∈ [Instr.stvswx v ra rb, .stvswxl v ra rb],
        Completes i s [.bytes real 16] fun t =>
          ∀ j < 16, t.byteAt real ((j + low4 (s.ea ra rb)) % 16) = byte (s.vr v) j)

/-- With p the low four bits of EA, byte j of vD is p + j (lvsl), 16 - p + j (lvsr), or 0xFF for the first 16 - p bytes
and 0 after (lvsm), whatever the translation of EA would answer. Only vD and the pc change; with MSR[SPV] = 0 AltiVec
unavailable is raised. (R334, R335, R336.) -/
def Obligations.AddressVectorResults : Prop :=
  ∀ (s : State) (vd ra rb : Reg),
    (VectorRule (.lvsl vd ra rb) s [.vr vd] (fun t => ∀ j < 16, (byte (t.vr vd) j).toNat = low4 (s.ea ra rb) + j)) ∧
    (VectorRule (.lvsr vd ra rb) s [.vr vd] (fun t => ∀ j < 16, (byte (t.vr vd) j).toNat = 16 - low4 (s.ea ra rb) + j)) ∧
    (VectorRule (.lvsm vd ra rb) s [.vr vd] (fun t => ∀ j < 16, byte (t.vr vd) j = if low4 (s.ea ra rb) + j < 16 then 0xFF else 0))

/-- Each word of vD is the model's element operation (the value of which FloatSpecialOperands and
FloatResultsRoundToNearest state) of the words of the sources and NJ; no flag is set. The instruction raises AltiVec
unavailable with MSR[SPV] = 0 and AltiVec assist where that is due, and else changes only vD and the pc.
(43_floating_point.md R250, R251, R252, R253, R254, R255, R276, 60_exceptions.md R445.) -/
def Obligations.FloatArithmeticElements : Prop :=
  ∀ (s : State) (vd va vb vc : Reg),
    (FloatRule (.vaddfp vd va vb) (wordsOf (s.vr va) ++ wordsOf (s.vr vb)) s [.vr vd]
      (fun t => Elems2 32 4 s t vd va vb fun a b d => d = fpAdd s.nj a b)) ∧
    (FloatRule (.vsubfp vd va vb) (wordsOf (s.vr va) ++ wordsOf (s.vr vb)) s [.vr vd]
      (fun t => Elems2 32 4 s t vd va vb fun a b d => d = fpSub s.nj a b)) ∧
    (FloatRule (.vmaxfp vd va vb) (wordsOf (s.vr va) ++ wordsOf (s.vr vb)) s [.vr vd]
      (fun t => Elems2 32 4 s t vd va vb fun a b d => d = fpMax s.nj a b)) ∧
    (FloatRule (.vminfp vd va vb) (wordsOf (s.vr va) ++ wordsOf (s.vr vb)) s [.vr vd]
      (fun t => Elems2 32 4 s t vd va vb fun a b d => d = fpMin s.nj a b)) ∧
    (FloatRule (.vmaddfp vd va vb vc) (wordsOf (s.vr va) ++ wordsOf (s.vr vb) ++ wordsOf (s.vr vc)) s [.vr vd]
      (fun t => ∀ j < 4, word (t.vr vd) j = fpMadd s.nj (word (s.vr va) j) (word (s.vr vb) j) (word (s.vr vc) j))) ∧
    (FloatRule (.vnmsubfp vd va vb vc) (wordsOf (s.vr va) ++ wordsOf (s.vr vb) ++ wordsOf (s.vr vc)) s [.vr vd]
      (fun t => ∀ j < 4, word (t.vr vd) j = fpNmsub s.nj (word (s.vr va) j) (word (s.vr vb) j) (word (s.vr vc) j)))

/-- After NJ flushing, each word of vD is all ones where neither element is a NaN and the values stand in the relation (an
infinity beyond every finite value, the two zeros equal), else zero; vcmpbfp sets bit 0 where not a <= b and bit 1
where not a >= -b, both for a NaN. With Rc = 1 CR6 is (all) || 0 || (none) || 0, for vcmpbfp 0 || 0 || (all in bounds)
|| 0. AltiVec unavailable and assist as for every floating-point instruction; else only vD, CR6 and the pc change.
(43_floating_point.md R249, R256, R257, R258, R259, 10_state.md R34.) -/
def Obligations.FloatCompareResults : Prop :=
  ∀ (s : State) (vd va vb : Reg) (rc : Bool),
    (FloatRule (.vcmpeqfp vd va vb rc) (wordsOf (s.vr va) ++ wordsOf (s.vr vb)) s (compareParts vd rc) (fun t =>
      let x : Nat → Word := fun j => flushIn s.nj (word (s.vr va) j)
      let y : Nat → Word := fun j => flushIn s.nj (word (s.vr vb) j)
      let holds : Nat → Prop := fun j => isNaN (x j) = false ∧ isNaN (y j) = false ∧ valueOf (x j) = valueOf (y j)
      (∀ j < 4, (holds j → word (t.vr vd) j = 0xFFFFFFFF) ∧ (¬ holds j → word (t.vr vd) j = 0)) ∧
      (rc = true → (t.cr6.getMsbD 0 = true ↔ ∀ j < 4, holds j) ∧ t.cr6.getMsbD 1 = false ∧
        (t.cr6.getMsbD 2 = true ↔ ∀ j < 4, ¬ holds j) ∧ t.cr6.getMsbD 3 = false))) ∧
    (FloatRule (.vcmpgefp vd va vb rc) (wordsOf (s.vr va) ++ wordsOf (s.vr vb)) s (compareParts vd rc) (fun t =>
      let x : Nat → Word := fun j => flushIn s.nj (word (s.vr va) j)
      let y : Nat → Word := fun j => flushIn s.nj (word (s.vr vb) j)
      let holds : Nat → Prop := fun j => isNaN (x j) = false ∧ isNaN (y j) = false ∧ valueOf (y j) ≤ valueOf (x j)
      (∀ j < 4, (holds j → word (t.vr vd) j = 0xFFFFFFFF) ∧ (¬ holds j → word (t.vr vd) j = 0)) ∧
      (rc = true → (t.cr6.getMsbD 0 = true ↔ ∀ j < 4, holds j) ∧ t.cr6.getMsbD 1 = false ∧
        (t.cr6.getMsbD 2 = true ↔ ∀ j < 4, ¬ holds j) ∧ t.cr6.getMsbD 3 = false))) ∧
    (FloatRule (.vcmpgtfp vd va vb rc) (wordsOf (s.vr va) ++ wordsOf (s.vr vb)) s (compareParts vd rc) (fun t =>
      let x : Nat → Word := fun j => flushIn s.nj (word (s.vr va) j)
      let y : Nat → Word := fun j => flushIn s.nj (word (s.vr vb) j)
      let holds : Nat → Prop := fun j => isNaN (x j) = false ∧ isNaN (y j) = false ∧ valueOf (y j) < valueOf (x j)
      (∀ j < 4, (holds j → word (t.vr vd) j = 0xFFFFFFFF) ∧ (¬ holds j → word (t.vr vd) j = 0)) ∧
      (rc = true → (t.cr6.getMsbD 0 = true ↔ ∀ j < 4, holds j) ∧ t.cr6.getMsbD 1 = false ∧
        (t.cr6.getMsbD 2 = true ↔ ∀ j < 4, ¬ holds j) ∧ t.cr6.getMsbD 3 = false))) ∧
    (FloatRule (.vcmpbfp vd va vb rc) (wordsOf (s.vr va) ++ wordsOf (s.vr vb)) s (compareParts vd rc) (fun t =>
      let x : Nat → Word := fun j => flushIn s.nj (word (s.vr va) j)
      let y : Nat → Word := fun j => flushIn s.nj (word (s.vr vb) j)
      let le : Nat → Prop := fun j => isNaN (x j) = false ∧ isNaN (y j) = false ∧ valueOf (x j) ≤ valueOf (y j)
      let ge : Nat → Prop := fun j => isNaN (x j) = false ∧ isNaN (y j) = false ∧ -valueOf (y j) ≤ valueOf (x j)
      (∀ j < 4, ((word (t.vr vd) j).getMsbD 0 = true ↔ ¬ le j) ∧ ((word (t.vr vd) j).getMsbD 1 = true ↔ ¬ ge j) ∧
        (word (t.vr vd) j).extractLsb' 0 30 = 0#30) ∧
      (rc = true → t.cr6.getMsbD 0 = false ∧ t.cr6.getMsbD 1 = false ∧
        (t.cr6.getMsbD 2 = true ↔ ∀ j < 4, le j ∧ ge j) ∧ t.cr6.getMsbD 3 = false)))

/-- vcfux and vcfsx give the integer over 2^UIMM, rounded (fromInteger, see FloatResultsRoundToNearest). vctuxs and vctsxs
give the value times 2^UIMM truncated toward zero, then clamped to 32 unsigned or signed bits, with SAT set exactly on
a clamp (an infinity counts as a value beyond every finite one); a NaN gives 0 and leaves SAT. vrfin, vrfiz, vrfip and
vrfim give fpIntegral (see IntegralRounding). vcfux and vcfsx read no floating-point element and so never raise
assist. (43_floating_point.md R247, R260, R261, R262, R263, R264, R265, R266, R267.) -/
def Obligations.FloatConversionResults : Prop :=
  ∀ (s : State) (vd vb : Reg) (u : BitVec 5),
    (VectorRule (.vcfux vd vb u) s [.vr vd] (fun t =>
      ∀ j < 4, word (t.vr vd) j = fromInteger (word (s.vr vb) j).toNat u.toNat)) ∧
    (VectorRule (.vcfsx vd vb u) s [.vr vd] (fun t =>
      ∀ j < 4, word (t.vr vd) j = fromInteger (word (s.vr vb) j).toInt u.toNat)) ∧
    (FloatRule (.vctuxs vd vb u) (wordsOf (s.vr vb)) s [.vr vd, .sat] (fun t =>
      let x : Nat → Word := fun j => flushIn s.nj (word (s.vr vb) j)
      let y : Nat → Int := fun j => (valueOf (x j) * 2 ^ u.toNat).tdiv (2 ^ 149)
      (∀ j < 4, ((word (t.vr vd) j).toNat : Int) = if isNaN (x j) then 0 else clampU 32 (y j)) ∧
      SatAfter s t 4 fun j => isNaN (x j) = false ∧ outU 32 (y j))) ∧
    (FloatRule (.vctsxs vd vb u) (wordsOf (s.vr vb)) s [.vr vd, .sat] (fun t =>
      let x : Nat → Word := fun j => flushIn s.nj (word (s.vr vb) j)
      let y : Nat → Int := fun j => (valueOf (x j) * 2 ^ u.toNat).tdiv (2 ^ 149)
      (∀ j < 4, (word (t.vr vd) j).toInt = if isNaN (x j) then 0 else clampS 32 (y j)) ∧
      SatAfter s t 4 fun j => isNaN (x j) = false ∧ outS 32 (y j))) ∧
    (FloatRule (.vrfin vd vb) (wordsOf (s.vr vb)) s [.vr vd] (fun t =>
      ∀ j < 4, word (t.vr vd) j = fpIntegral .near s.nj (word (s.vr vb) j))) ∧
    (FloatRule (.vrfiz vd vb) (wordsOf (s.vr vb)) s [.vr vd] (fun t =>
      ∀ j < 4, word (t.vr vd) j = fpIntegral .trunc s.nj (word (s.vr vb) j))) ∧
    (FloatRule (.vrfip vd vb) (wordsOf (s.vr vb)) s [.vr vd] (fun t =>
      ∀ j < 4, word (t.vr vd) j = fpIntegral .ceil s.nj (word (s.vr vb) j))) ∧
    (FloatRule (.vrfim vd vb) (wordsOf (s.vr vb)) s [.vr vd] (fun t =>
      ∀ j < 4, word (t.vr vd) j = fpIntegral .floor s.nj (word (s.vr vb) j)))

/-- Each word of vD is the model's estimate function of NJ, some candidate word, which is left open, and the source word:
what every candidate gives is bounded by EstimatesWithinBounds. AltiVec unavailable and assist as for every floating-
point instruction; else only vD and the pc (and the model's count of free values) change. (43_floating_point.md R272,
R273, R274, R275.) -/
def Obligations.EstimateElements : Prop :=
  ∀ (s : State) (vd vb : Reg),
    (FloatRule (.vrefp vd vb) (wordsOf (s.vr vb)) s [.vr vd, .draws] (fun t =>
      ∃ draw : Nat → Word, ∀ j < 4, word (t.vr vd) j = estRecip s.nj (draw j) (word (s.vr vb) j))) ∧
    (FloatRule (.vrsqrtefp vd vb) (wordsOf (s.vr vb)) s [.vr vd, .draws] (fun t =>
      ∃ draw : Nat → Word, ∀ j < 4, word (t.vr vd) j = estRsqrt s.nj (draw j) (word (s.vr vb) j))) ∧
    (FloatRule (.vlogefp vd vb) (wordsOf (s.vr vb)) s [.vr vd, .draws] (fun t =>
      ∃ draw : Nat → Word, ∀ j < 4, word (t.vr vd) j = estLog2 s.nj (draw j) (word (s.vr vb) j))) ∧
    (FloatRule (.vexptefp vd vb) (wordsOf (s.vr vb)) s [.vr vd, .draws] (fun t =>
      ∃ draw : Nat → Word, ∀ j < 4, word (t.vr vd) j = estExp2 s.nj (draw j) (word (s.vr vb) j)))

/-- For the element operations, after NJ flushing: the first NaN of vA, vB, vC is returned quiet, with its own sign
(vnmsubfp too). An infinity added to or subtracted from anything else gives that infinity, but infinities that cancel
give 0x7FC00000; a sum or difference that is exactly zero is -0 only for two negative zeros (after the sign change of
a subtrahend) and else +0. A maximum or minimum is the greater or the lesser of the two flushed operands, infinities
included; the maximum of two zeros is +0 unless both are -0 and the minimum -0 unless both are +0. Infinity times zero
gives 0x7FC00000; an infinite product gives the infinity of its sign, or 0x7FC00000 where the addend cancels it; a
finite product with an infinite addend gives that addend (vnmsubfp too); an exactly zero multiply-add is -0 only for a
negative zero product and a negative zero addend, and vnmsubfp inverts the sign of its zero. The estimates give
infinity of the source's sign for a reciprocal or root of zero, -infinity for the logarithm of zero, 0x7FC00000 for
the root or logarithm of a negative number, 1 for 2 to a zero, and their limits at the infinities.
(43_floating_point.md R244, 43_floating_point.md R248, 43_floating_point.md R250, 43_floating_point.md R251,
43_floating_point.md R252, 43_floating_point.md R253, 43_floating_point.md R254, 43_floating_point.md R255,
43_floating_point.md R268, 43_floating_point.md R269, 43_floating_point.md R270, 43_floating_point.md R271.) -/
def Obligations.FloatSpecialOperands : Prop :=
  (∀ (nj : Bool) (x y z draw : Word),
    let a := flushIn nj x
    let b := flushIn nj y
    let c := flushIn nj z
    (isNaN a = true → (∀ f ∈ [fpAdd, fpSub, fpMax, fpMin], f nj x y = x ||| 0x00400000) ∧
      (∀ f ∈ [fpMadd, fpNmsub], f nj x y z = x ||| 0x00400000) ∧
      ∀ f ∈ [estRecip, estRsqrt, estLog2, estExp2], f nj draw x = x ||| 0x00400000) ∧
    (isNaN a = false → isNaN b = true → (∀ f ∈ [fpAdd, fpSub, fpMax, fpMin], f nj x y = y ||| 0x00400000) ∧
      ∀ f ∈ [fpMadd, fpNmsub], f nj x y z = y ||| 0x00400000) ∧
    (isNaN a = false → isNaN b = false → isNaN c = true →
      ∀ f ∈ [fpMadd, fpNmsub], f nj x y z = z ||| 0x00400000) ∧
    (isNaN a = false → isNaN b = false →
      (isInf a = true → fpAdd nj x y = (if isInf b ∧ signOf a ≠ signOf b then 0x7FC00000 else a) ∧
        fpSub nj x y = (if isInf b ∧ signOf a = signOf b then 0x7FC00000 else a)) ∧
      (isInf a = false → isInf b = true → fpAdd nj x y = b ∧ fpSub nj x y = b ^^^ 0x80000000) ∧
      (isInf a = false → isInf b = false →
        (valueOf a + valueOf b = 0 → fpAdd nj x y = if signOf a ∧ signOf b then 0x80000000 else 0) ∧
        (valueOf a - valueOf b = 0 → fpSub nj x y = if signOf a ∧ ¬ signOf b then 0x80000000 else 0)) ∧
      (isZero a = true → isZero b = true →
        fpMax nj x y = (if signOf a ∧ signOf b then 0x80000000 else 0) ∧
        fpMin nj x y = (if signOf a ∨ signOf b then 0x80000000 else 0)) ∧
      (isZero a = false ∨ isZero b = false →
        fpMax nj x y = (if valueOf b ≤ valueOf a then a else b) ∧
        fpMin nj x y = (if valueOf a < valueOf b then a else b))) ∧
    (isNaN a = false → isNaN b = false → isNaN c = false →
      let negative := signOf a ^^ signOf c
      (isInf a = true ∧ isZero c = true ∨ isZero a = true ∧ isInf c = true →
        fpMadd nj x y z = 0x7FC00000 ∧ fpNmsub nj x y z = 0x7FC00000) ∧
      (isInf a = true ∨ isInf c = true → isZero a = false → isZero c = false →
        fpMadd nj x y z = (if isInf b ∧ signOf b ≠ negative then 0x7FC00000
          else if negative then 0xFF800000 else 0x7F800000) ∧
        fpNmsub nj x y z = (if isInf b ∧ signOf b = negative then 0x7FC00000
          else if negative then 0x7F800000 else 0xFF800000)) ∧
      (isInf a = false → isInf c = false →
        (isInf b = true → fpMadd nj x y z = b ∧ fpNmsub nj x y z = b) ∧
        (isInf b = false →
          (valueOf a * valueOf c + valueOf b * 2 ^ 149 = 0 →
            fpMadd nj x y z = if negative ∧ signOf b then 0x80000000 else 0) ∧
          (valueOf a * valueOf c - valueOf b * 2 ^ 149 = 0 →
            fpNmsub nj x y z = if negative ∧ ¬ signOf b then 0 else 0x80000000)))) ∧
    (isZero a = true → estRecip nj draw x = (if signOf a then 0xFF800000 else 0x7F800000) ∧
      estRsqrt nj draw x = (if signOf a then 0xFF800000 else 0x7F800000) ∧
      estLog2 nj draw x = 0xFF800000 ∧ estExp2 nj draw x = 0x3F800000) ∧
    (isNaN a = false → isZero a = false → signOf a = true →
      estRsqrt nj draw x = 0x7FC00000 ∧ estLog2 nj draw x = 0x7FC00000)) ∧
  ∀ (nj : Bool) (draw : Word),
    estRecip nj draw 0x7F800000 = 0 ∧ estRecip nj draw 0xFF800000 = 0x80000000 ∧ estRsqrt nj draw 0x7F800000 = 0 ∧
    estLog2 nj draw 0x7F800000 = 0x7F800000 ∧ estExp2 nj draw 0x7F800000 = 0x7F800000 ∧ estExp2 nj draw 0xFF800000 = 0

/-- RndToNearFP32 of a non-zero magnitude m / 2^scale is, with NJ = 0, within half a unit in the last place, the even one
of two equally near, or an infinity exactly from the halfway point above the largest number on; with NJ = 1 it is a
zero of the sign of the value where the value is below 2^-126, before rounding, and else the same word. For operands
that NJ flushing leaves finite, add, subtract, multiply-add and negative multiply-subtract are that rounding of the
exact value of the flushed operands, in units of 2^-149 (2^-298 for a product), where it is not zero (a zero:
FloatSpecialOperands); the conversions from integers are that rounding of the integer over 2^UIMM, and +0 for 0.
(43_floating_point.md R242, 43_floating_point.md R243, 43_floating_point.md R245, 43_floating_point.md R247,
43_floating_point.md R250, 43_floating_point.md R251, 43_floating_point.md R252, 43_floating_point.md R253.) -/
def Obligations.FloatResultsRoundToNearest : Prop :=
  (∀ (neg : Bool) (m scale : Nat), m ≠ 0 → 149 ≤ scale →
    let r := roundMag false neg m scale
    signOf r = neg ∧ isNaN r = false ∧
    (isInf r = true ↔ (2 ^ 277 - 2 ^ 252) * 2 ^ (scale - 149) ≤ m) ∧
    (isInf r = false →
      let e : Int := magOf r * 2 ^ (scale - 149) - m
      let ulp : Int := 2 ^ max (m.log2 - 23) (scale - 149)
      2 * |e| ≤ ulp ∧ (2 * |e| = ulp → r.getLsbD 0 = false)) ∧
    roundMag true neg m scale =
      if m < 2 ^ 23 * 2 ^ (scale - 149) then (if neg then 0x80000000 else 0) else r) ∧
  (∀ (nj : Bool) (x y z : Word),
    let a := flushIn nj x
    let b := flushIn nj y
    let c := flushIn nj z
    isNaN a = false → isNaN b = false → isNaN c = false → isInf a = false → isInf b = false → isInf c = false →
    (let v := valueOf a + valueOf b
     v ≠ 0 → fpAdd nj x y = roundMag nj (decide (v < 0)) v.natAbs 149) ∧
    (let v := valueOf a - valueOf b
     v ≠ 0 → fpSub nj x y = roundMag nj (decide (v < 0)) v.natAbs 149) ∧
    (let v := valueOf a * valueOf c + valueOf b * 2 ^ 149
     v ≠ 0 → fpMadd nj x y z = roundMag nj (decide (v < 0)) v.natAbs 298) ∧
    (let v := valueOf b * 2 ^ 149 - valueOf a * valueOf c
     v ≠ 0 → fpNmsub nj x y z = roundMag nj (decide (v < 0)) v.natAbs 298)) ∧
  (∀ (k : Int) (u : Nat), k ≠ 0 →
    fromInteger k u = roundMag false (decide (k < 0)) (k.natAbs * 2 ^ 149) (149 + u)) ∧
  ∀ u : Nat, fromInteger 0 u = 0

/-- For a finite element (after NJ flushing) the result is finite, its value is a multiple of 1, and it is the nearest
integer (ties to even), the integer toward zero, the least integer not below, or the greatest integer not above; its
sign is that of the element, so a zero result keeps it. An infinity gives itself and a NaN itself made quiet.
(43_floating_point.md R246, R264, R265, R266, R267.) -/
def Obligations.IntegralRounding : Prop :=
  ∀ (nj : Bool) (y : Word),
    let x := flushIn nj y
    (isNaN x = true → ∀ d, fpIntegral d nj y = y ||| 0x00400000) ∧ (isInf x = true → ∀ d, fpIntegral d nj y = x) ∧
    (isNaN x = false → isInf x = false →
      (∀ d, signOf (fpIntegral d nj y) = signOf x ∧ isNaN (fpIntegral d nj y) = false ∧
        isInf (fpIntegral d nj y) = false) ∧
      valueOf (fpIntegral .trunc nj y) = (valueOf x).tdiv (2 ^ 149) * 2 ^ 149 ∧
      valueOf (fpIntegral .floor nj y) = valueOf x / 2 ^ 149 * 2 ^ 149 ∧
      valueOf (fpIntegral .ceil nj y) = -(-valueOf x / 2 ^ 149) * 2 ^ 149 ∧
      ∃ n : Int, valueOf (fpIntegral .near nj y) = n * 2 ^ 149 ∧ 2 * |n * 2 ^ 149 - valueOf x| ≤ 2 ^ 149 ∧
        (2 * |n * 2 ^ 149 - valueOf x| = 2 ^ 149 → n % 2 = 0))

/-- For every candidate word, either value of NJ and every source element that NJ flushing leaves finite and not zero: the
reciprocal estimate, and for a positive element the reciprocal square root, the base-2 logarithm (compared with the
real logarithm) and, for an element of either sign, the power of two (compared with the real power) are permitted, in
the sense of RecipBound, RsqrtBound, LogBound and PowBound: relative error at most 1/4096, 1/4096 and 1/16 where the
result is normal; for the logarithm absolute error at most 1/32 and relative error at most 1/8; powers of two exact at
integers; infinities and zeros only where rules R243, R268 and R271 let them stand, and with NJ = 1 no denormalized
result (R245). That the relative error of a logarithm is taken of its magnitude, and that with NJ = 1 a power not far
above 2^-126 may be flushed, are the model's (log entry 12). (43_floating_point.md R243, 43_floating_point.md R245,
43_floating_point.md R268, 43_floating_point.md R269, 43_floating_point.md R270, 43_floating_point.md R271.) -/
def Obligations.EstimatesWithinBounds : Prop :=
  ∀ (nj : Bool) (draw y : Word),
    let x := flushIn nj y
    isNaN x = false → isInf x = false → isZero x = false →
    RecipBound nj x (estRecip nj draw y) ∧
    (signOf x = false → RsqrtBound x (estRsqrt nj draw y) ∧ LogBound x (estLog2 nj draw y)) ∧
    PowBound nj x (estExp2 nj draw y)

/-- For every instruction other than mtvscr, interrupts included: a set SAT stays set and every other bit of the VSCR, NJ
among them, keeps its value. The one exception is an instruction that the implementation lacks and a supplied base
machine takes in its place. (10_state.md R25, 10_state.md R24, 10_state.md R26, 70_reset_and_hazards.md R481.) -/
def Obligations.SaturationIsSticky : Prop :=
  ∀ (i : Instr) (s t : State), (∀ v, i ≠ .mtvscr v) → exec i s = .next t →
    s.baseMachine = some t ∨
      ((s.sat = true → t.sat = true) ∧ ∀ j, j ≠ 0 → t.vscr.getLsbD j = s.vscr.getLsbD j)

/-- From every state with MSR[PR] = 1, a step that answers a next state leaves IVPR_base, the IVORs, EPLC, EPSC, PID and
LPIDR as they were, and either leaves the MSR, SRR0, SRR1, GSRR0, GSRR1, ESR, GESR and DEAR as they were too, or has
taken an interrupt: MSR[PR] and MSR[SPV] are then clear and its other bits as they were, the pc is at the handler of
one of the six interrupts, and the old pc and MSR are in SRR0 and SRR1, or in GSRR0 and GSRR1. So no such step sets a
bit of the MSR. The one exception is a step that a supplied base machine takes on a word outside the model.
(60_exceptions.md R460, 10_state.md R37, 10_state.md R40, 60_exceptions.md R450.) -/
def Obligations.UserStateIsConfined : Prop :=
  ∀ s t : State, s.prBit = true → step s = .next t →
    s.baseMachine = some t ∨
    (t.ivpr = s.ivpr ∧ (∀ k, t.ivor k = s.ivor k) ∧ t.eplc = s.eplc ∧ t.epsc = s.epsc ∧ t.pid = s.pid ∧
      t.lpidr = s.lpidr ∧
      ((t.msr = s.msr ∧ t.srr0 = s.srr0 ∧ t.srr1 = s.srr1 ∧ t.gsrr0 = s.gsrr0 ∧ t.gsrr1 = s.gsrr1 ∧ t.esr = s.esr ∧
          t.gesr = s.gesr ∧ t.dear = s.dear) ∨
        (t.prBit = false ∧ t.spv = false ∧ (∀ j, j ≠ 25 → j ≠ 14 → t.msr.getLsbD j = s.msr.getLsbD j) ∧
          (∃ k, t.pc = s.modeAddr (s.ivpr ++ s.ivor k)) ∧
          ((t.srr0 = s.pc ∧ t.srr1 = s.msr) ∨ (t.gsrr0 = s.pc ∧ t.gsrr1 = s.msr)))))

/-- With MSR[SPV] = 1 and memory in canonical form (the invariant of EveryStepKeepsInvariant), where a load and a store of
EA's quad word translate to one real address, stvx completes and lvx of the same EA in the state it leaves puts the
stored vector in vD. (44_load_store.md R295, 44_load_store.md R308, 20_memory.md R52, 20_memory.md R70.) -/
def Obligations.StoreThenLoadReturnsVector : Prop :=
  ∀ (s : State) (vs vd ra rb : Reg) (real : DWord) (m1 m2 : MemAttr), s.spv = true →
    Memory.wf s.mem →
    s.translate (alignDown 4 (s.ea ra rb)) .store s.normalCtx = .ok real m1 →
    s.translate (alignDown 4 (s.ea ra rb)) .load s.normalCtx = .ok real m2 →
    ∃ t u, exec (.stvx vs ra rb) s = .next t ∧ exec (.lvx vd ra rb) t = .next u ∧ u.vr vd = s.vr vs
end

