-- ==== Sys2Proof/Laws/Encoding.lean ====
section
/-! SUPPORT. The fields of an encoded word: for each form of 30_encoding.md, the primary opcode, the register and immediate
fields and the extended opcode are read back as they were put in. -/

namespace Sys2Proof

/-- A field of a word is a bit string where the bits agree. -/
theorem insnField_eq {w : BitVec 32} {i n : Nat} {v : BitVec n}
    (h : ∀ k < n, w.getLsbD (32 - i - n + k) = v.getLsbD k) : insnField w i n = v := by
  apply BitVec.eq_of_getLsbD_eq
  intro k hk
  simp [insnField, hk, h k hk]

/-- The fields of an X-form word. -/
theorem wordX_fields (xo : Nat) (d a b : Reg) :
    insnField (wordX xo d a b) 0 6 = 31#6 ∧
    insnField (wordX xo d a b) 6 5 = d ∧
    insnField (wordX xo d a b) 11 5 = a ∧
    insnField (wordX xo d a b) 16 5 = b ∧
    insnField (wordX xo d a b) 21 10 = BitVec.ofNat 10 xo ∧
    insnField (wordX xo d a b) 31 1 = 0#1 := by
  refine ⟨?_, ?_, ?_, ?_, ?_, ?_⟩ <;> refine insnField_eq fun k hk => ?_ <;>
    simp only [wordX, BitVec.getLsbD_append] <;> interval_cases k <;> simp

/-- The fields of an XL-form word. -/
theorem wordXL_fields (xo : Nat) :
    insnField (wordXL xo) 0 6 = 19#6 ∧
    insnField (wordXL xo) 21 10 = BitVec.ofNat 10 xo := by
  refine ⟨?_, ?_⟩ <;> refine insnField_eq fun k hk => ?_ <;>
    simp only [wordXL, BitVec.getLsbD_append] <;> interval_cases k <;> simp

/-- The fields of a VX-form word. -/
theorem wordVX_fields (xo : Nat) (d a b : Reg) :
    insnField (wordVX xo d a b) 0 6 = 4#6 ∧
    insnField (wordVX xo d a b) 6 5 = d ∧
    insnField (wordVX xo d a b) 11 5 = a ∧
    insnField (wordVX xo d a b) 16 5 = b ∧
    insnField (wordVX xo d a b) 21 11 = BitVec.ofNat 11 xo := by
  refine ⟨?_, ?_, ?_, ?_, ?_⟩ <;> refine insnField_eq fun k hk => ?_ <;>
    simp only [wordVX, BitVec.getLsbD_append] <;> interval_cases k <;> simp

/-- The fields of a VXR-form word. -/
theorem wordVXR_fields (xo : Nat) (d a b : Reg) (rc : Bool) :
    insnField (wordVXR xo d a b rc) 0 6 = 4#6 ∧
    insnField (wordVXR xo d a b rc) 6 5 = d ∧
    insnField (wordVXR xo d a b rc) 11 5 = a ∧
    insnField (wordVXR xo d a b rc) 16 5 = b ∧
    insnField (wordVXR xo d a b rc) 21 1 = BitVec.ofBool rc ∧
    insnField (wordVXR xo d a b rc) 22 10 = BitVec.ofNat 10 xo := by
  refine ⟨?_, ?_, ?_, ?_, ?_, ?_⟩ <;> refine insnField_eq fun k hk => ?_ <;>
    simp only [wordVXR, BitVec.getLsbD_append] <;> interval_cases k <;> simp

/-- The fields of a VA-form word. -/
theorem wordVA_fields (xo : Nat) (d a b c : Reg) :
    insnField (wordVA xo d a b c) 0 6 = 4#6 ∧
    insnField (wordVA xo d a b c) 6 5 = d ∧
    insnField (wordVA xo d a b c) 11 5 = a ∧
    insnField (wordVA xo d a b c) 16 5 = b ∧
    insnField (wordVA xo d a b c) 21 5 = c ∧
    insnField (wordVA xo d a b c) 26 6 = BitVec.ofNat 6 xo := by
  refine ⟨?_, ?_, ?_, ?_, ?_, ?_⟩ <;> refine insnField_eq fun k hk => ?_ <;>
    simp only [wordVA, BitVec.getLsbD_append] <;> interval_cases k <;> simp

/-- The fields of a D-form word. -/
theorem wordD_fields (op : Nat) (d a : Reg) (imm : BitVec 16) :
    insnField (wordD op d a imm) 0 6 = BitVec.ofNat 6 op ∧
    insnField (wordD op d a imm) 6 5 = d ∧
    insnField (wordD op d a imm) 11 5 = a ∧
    insnField (wordD op d a imm) 16 16 = imm := by
  refine ⟨?_, ?_, ?_, ?_⟩ <;> refine insnField_eq fun k hk => ?_ <;>
    simp only [wordD, BitVec.getLsbD_append] <;> interval_cases k <;> simp

/-- The fields of a B-form word. -/
theorem wordB_fields (bo bi : BitVec 5) (bd : BitVec 14) :
    insnField (wordB bo bi bd) 0 6 = 16#6 ∧
    insnField (wordB bo bi bd) 6 5 = bo ∧
    insnField (wordB bo bi bd) 11 5 = bi ∧
    insnField (wordB bo bi bd) 16 14 = bd ∧
    insnField (wordB bo bi bd) 30 2 = 0#2 := by
  refine ⟨?_, ?_, ?_, ?_, ?_⟩ <;> refine insnField_eq fun k hk => ?_ <;>
    simp only [wordB, BitVec.getLsbD_append] <;> interval_cases k <;> simp

/-- The fields of an I-form word. -/
theorem wordI_fields (li : BitVec 24) :
    insnField (wordI li) 0 6 = 18#6 ∧
    insnField (wordI li) 6 24 = li ∧
    insnField (wordI li) 30 2 = 0#2 := by
  refine ⟨?_, ?_, ?_⟩ <;> refine insnField_eq fun k hk => ?_ <;>
    simp only [wordI, BitVec.getLsbD_append] <;> interval_cases k <;> simp

/-- The six bits that rule R86 tests lie in the extended opcode of a VX- or VXR-form word. -/
theorem wordVX_low6 (xo : Nat) (d a b : Reg) : insnField (wordVX xo d a b) 26 6 = BitVec.ofNat 6 xo := by
  refine insnField_eq fun k hk => ?_
  have hk' : k < 11 := by omega
  rw [wordVX, BitVec.getLsbD_append, if_pos (by omega), BitVec.getLsbD_ofNat, BitVec.getLsbD_ofNat]
  simp [hk, hk']

theorem wordVXR_low6 (xo : Nat) (d a b : Reg) (rc : Bool) : insnField (wordVXR xo d a b rc) 26 6 = BitVec.ofNat 6 xo := by
  refine insnField_eq fun k hk => ?_
  have hk' : k < 10 := by omega
  rw [wordVXR, BitVec.getLsbD_append, if_pos (by omega), BitVec.getLsbD_ofNat, BitVec.getLsbD_ofNat]
  simp [hk, hk']

/-- Decoding a word whose row is `r`. -/
theorem decode_of_opt {w : BitVec 32} {i : Instr} (h : decodeOpt w = some i) : decode w = .ok i := by
  simp only [decode, h]

/-- Decoding an X-form word: the loads, stores and moves, then the stream rows, then the base rows. -/
theorem decodeOpt_wordX {xo : Nat} (h : xo < 1024) (d a b : Reg) :
    decodeOpt (wordX xo d a b) =
      match decodeX xo d a b with
      | some i => some i
      | none =>
        match decodeStream xo d a b with
        | some i => some i
        | none => decodeBase31 xo d a b false := by
  obtain ⟨h1, h2, h3, h4, h5, h6⟩ := wordX_fields xo d a b
  have hx : (BitVec.ofNat 10 xo).toNat = xo := by simp; omega
  simp only [decodeOpt, decode31, h1, h2, h3, h4, h5, h6, hx]
  rfl

/-- Decoding a VX-form word. -/
theorem decodeOpt_wordVX {xo : Nat} (h : xo < 2048) (h6 : xo % 64 < 32) (hr : xo % 64 ≠ 6) (d a b : Reg) :
    decodeOpt (wordVX xo d a b) = decodeVX xo d a b := by
  obtain ⟨h1, h2, h3, h4, h5⟩ := wordVX_fields xo d a b
  have hx : (BitVec.ofNat 11 xo).toNat = xo := by simp; omega
  have hy : (BitVec.ofNat 6 xo).toNat = xo % 64 := by simp
  simp only [decodeOpt, decode4, h1, h2, h3, h4, h5, wordVX_low6, hx, hy]
  rw [if_neg (by omega), if_neg hr]
  rfl

/-- Decoding a VXR-form word. -/
theorem decodeOpt_wordVXR {xo : Nat} (h : xo < 1024) (hr : xo % 64 = 6) (d a b : Reg) (rc : Bool) :
    decodeOpt (wordVXR xo d a b rc) = decodeVXR xo d a b rc := by
  obtain ⟨h1, h2, h3, h4, h5, h6⟩ := wordVXR_fields xo d a b rc
  have hx : (BitVec.ofNat 10 xo).toNat = xo := by simp; omega
  have hy : (BitVec.ofNat 6 xo).toNat = 6 := by simp; omega
  simp only [decodeOpt, decode4, h1, h2, h3, h4, h5, h6, wordVXR_low6, hx, hy]
  cases rc <;> rfl

/-- Decoding a VA-form word. -/
theorem decodeOpt_wordVA {xo : Nat} (h : xo < 64) (h6 : 32 ≤ xo) (d a b c : Reg) :
    decodeOpt (wordVA xo d a b c) = decodeVA xo d a b c := by
  obtain ⟨h1, h2, h3, h4, h5, h6'⟩ := wordVA_fields xo d a b c
  have hx : (BitVec.ofNat 6 xo).toNat = xo := by simp; omega
  simp only [decodeOpt, decode4, h1, h2, h3, h4, h5, h6', hx]
  rw [if_pos h6]
  rfl

end Sys2Proof
end

