-- ==== Sys2Proof/Laws/Estimates.lean ====
section
/-! SUPPORT. What the computations of the estimates give: integer roots, the intervals that hold the base-2 logarithm and
the power of two, and what the words that the tests admit come to. -/

namespace Sys2Proof.Machine

open Sys2Proof

/-! ### Integer roots -/

/-- `rootBits` is the integer square root. -/
theorem rootBits_spec (n : Nat) : ∀ k acc, acc * acc ≤ n → n < (acc + 2 ^ k) * (acc + 2 ^ k) →
    rootBits n k acc * rootBits n k acc ≤ n ∧ n < (rootBits n k acc + 1) * (rootBits n k acc + 1) := by
  intro k
  induction k with
  | zero => exact fun acc h1 h2 => ⟨h1, by simpa [rootBits] using h2⟩
  | succ k ih =>
    intro acc h1 h2
    simp only [rootBits]
    split
    · rename_i h
      exact ih _ h (by rwa [show acc + 2 ^ k + 2 ^ k = acc + 2 ^ (k + 1) by ring])
    · exact ih _ h1 (by omega)

/-- A quotient rounded down. -/
theorem div_bounds (n : Nat) :
    ((n / 2 ^ 192 : Nat) : ℝ) ≤ n / 2 ^ 192 ∧ (n / 2 ^ 192 : ℝ) ≤ ((n / 2 ^ 192 : Nat) : ℝ) + 1 := by
  constructor
  · rw [le_div_iff₀ (by positivity)]
    exact_mod_cast Nat.div_mul_le_self n (2 ^ 192)
  · rw [div_le_iff₀ (by positivity)]
    have h : n ≤ (n / 2 ^ 192 + 1) * 2 ^ 192 := by omega
    exact_mod_cast h

/-! ### The logarithm -/

/-- One more in the last place adds at most 2^-191 to the logarithm. -/
theorem logb_succ_le {x : ℝ} (h : 2 ^ 192 ≤ x) :
    Real.logb 2 ((x + 1) / 2 ^ 192) ≤ Real.logb 2 (x / 2 ^ 192) + 2 / 2 ^ 192 := by
  have hx : 0 < x := lt_of_lt_of_le (by positivity) h
  have h2 : (1 / 2 : ℝ) < Real.log 2 := lt_trans (by norm_num) Real.log_two_gt_d9
  have e : (x + 1) / 2 ^ 192 = x / 2 ^ 192 * (1 + 1 / x) := by field_simp
  rw [e, Real.logb_mul (by positivity) (by positivity), add_le_add_iff_left, Real.logb, div_le_iff₀ (by linarith)]
  have h3 : Real.log (1 + 1 / x) ≤ 1 / x := by
    have := Real.log_le_sub_one_of_pos (show 0 < 1 + 1 / x by positivity)
    linarith
  have h4 : 1 / x ≤ 1 / 2 ^ 192 := one_div_le_one_div_of_le (by positivity) h
  calc Real.log (1 + 1 / x) ≤ 1 / 2 ^ 192 := h3.trans h4
    _ ≤ 2 / 2 ^ 192 * Real.log 2 := by
      rw [div_mul_eq_mul_div, div_le_div_iff_of_pos_right (by positivity)]
      linarith

/-- `logBits` gives `k` bits of the logarithm, at most one unit and the roundings below it. -/
theorem logBits_spec : ∀ k f acc, 2 ^ 192 ≤ f → f < 2 ^ 193 →
    (logBits k f acc : ℝ) ≤ 2 ^ k * (acc + Real.logb 2 (f / 2 ^ 192)) ∧
      2 ^ k * (acc + Real.logb 2 (f / 2 ^ 192)) ≤ logBits k f acc + 1 + (2 ^ k - 1) * (2 / 2 ^ 192) := by
  intro k
  induction k with
  | zero =>
    intro f acc h1 h2
    have h1' : (2 ^ 192 : ℝ) ≤ f := by exact_mod_cast h1
    have h2' : (f : ℝ) ≤ 2 ^ 193 := by exact_mod_cast h2.le
    have hl : 0 ≤ Real.logb 2 (f / 2 ^ 192) :=
      Real.logb_nonneg (by norm_num) (by rwa [le_div_iff₀ (by positivity), one_mul])
    have hu : Real.logb 2 (f / 2 ^ 192) ≤ 1 := by
      rw [Real.logb_le_iff_le_rpow (by norm_num) (by positivity), Real.rpow_one, div_le_iff₀ (by positivity)]
      linarith
    simp only [logBits]
    constructor <;> norm_num <;> linarith
  | succ k ih =>
    intro f acc h1 h2
    have h1' : (2 ^ 192 : ℝ) ≤ f := by exact_mod_cast h1
    have hf : (0 : ℝ) < f := lt_of_lt_of_le (by positivity) h1'
    have hsq : Real.logb 2 (f * f / 2 ^ 192 / 2 ^ 192) = 2 * Real.logb 2 (f / 2 ^ 192) := by
      rw [show (f * f / 2 ^ 192 / 2 ^ 192 : ℝ) = (f / 2 ^ 192) * (f / 2 ^ 192) by field_simp,
        Real.logb_mul (by positivity) (by positivity)]
      ring
    have hg1 : 2 ^ 192 ≤ f * f / 2 ^ 192 := (Nat.le_div_iff_mul_le (by positivity)).2 (Nat.mul_le_mul h1 h1)
    have hg2 : f * f / 2 ^ 192 < 2 ^ 194 := by
      rw [Nat.div_lt_iff_lt_mul (by positivity)]
      calc f * f < 2 ^ 193 * 2 ^ 193 := Nat.mul_lt_mul'' h2 h2
        _ = 2 ^ 194 * 2 ^ 192 := by norm_num
    obtain ⟨hgl, hgu⟩ := div_bounds (f * f)
    rw [Nat.cast_mul] at hgl hgu
    simp only [logBits]
    generalize hg : f * f / 2 ^ 192 = g at *
    have hg1' : (2 ^ 192 : ℝ) ≤ g := by exact_mod_cast hg1
    split
    · rename_i hb
      have hh1 : 2 ^ 192 ≤ g / 2 := by omega
      have hh1' : (2 ^ 192 : ℝ) ≤ (g / 2 : Nat) := by exact_mod_cast hh1
      obtain ⟨a, b⟩ := ih (g / 2) (2 * acc + 1) hh1 (by omega)
      have hhl : (2 * (g / 2 : Nat) : ℝ) ≤ g := by exact_mod_cast (by omega : 2 * (g / 2) ≤ g)
      have hhu : (g : ℝ) + 1 ≤ 2 * ((g / 2 : Nat) + 1) := by exact_mod_cast (by omega : g + 1 ≤ 2 * (g / 2 + 1))
      generalize g / 2 = h at *
      have e : ∀ x : ℝ, 0 < x → Real.logb 2 (2 * x / 2 ^ 192) = 1 + Real.logb 2 (x / 2 ^ 192) := fun x hx => by
        rw [show 2 * x / 2 ^ 192 = 2 * (x / 2 ^ 192) by ring, Real.logb_mul (by norm_num) (by positivity)]
        simp
      have l1 : 1 + Real.logb 2 (h / 2 ^ 192) ≤ 2 * Real.logb 2 (f / 2 ^ 192) := by
        rw [← hsq, ← e h (by linarith)]
        exact Real.logb_le_logb_of_le (by norm_num) (by positivity) (by gcongr; linarith)
      have l2 : 2 * Real.logb 2 (f / 2 ^ 192) ≤ 1 + Real.logb 2 (h / 2 ^ 192) + 2 / 2 ^ 192 := by
        have := logb_succ_le hh1'
        rw [← hsq, add_assoc]
        refine le_trans ?_ (add_le_add_right this 1)
        rw [← e (h + 1) (by positivity)]
        exact Real.logb_le_logb_of_le (by norm_num) (by positivity) (by gcongr; linarith)
      push_cast at a b
      constructor
      · refine a.trans ?_
        rw [pow_succ (2 : ℝ) k, mul_assoc]
        gcongr
        linarith
      · have := mul_le_mul_of_nonneg_left l2 (show (0 : ℝ) ≤ 2 ^ k by positivity)
        rw [pow_succ (2 : ℝ) k]
        nlinarith
    · obtain ⟨a, b⟩ := ih g (2 * acc) hg1 (by omega)
      have l1 : Real.logb 2 (g / 2 ^ 192) ≤ 2 * Real.logb 2 (f / 2 ^ 192) := by
        rw [← hsq]
        exact Real.logb_le_logb_of_le (by norm_num) (by positivity) (by gcongr)
      have l2 : 2 * Real.logb 2 (f / 2 ^ 192) ≤ Real.logb 2 (g / 2 ^ 192) + 2 / 2 ^ 192 := by
        rw [← hsq]
        refine le_trans ?_ (logb_succ_le hg1')
        exact Real.logb_le_logb_of_le (by norm_num) (by positivity) (by gcongr)
      push_cast at a b
      constructor
      · refine a.trans ?_
        rw [pow_succ (2 : ℝ) k, mul_assoc]
        gcongr
        linarith
      · have := mul_le_mul_of_nonneg_left l2 (show (0 : ℝ) ≤ 2 ^ k by positivity)
        rw [pow_succ (2 : ℝ) k]
        nlinarith

/-- The base-2 logarithm of `m * 2^-149`, in units of 2^-149, lies between the bounds, where m has at most 192 bits below its
first one. -/
theorem logFloor_spec {m : Nat} (h0 : m ≠ 0) (hd : 2 ^ m.log2 ∣ m * 2 ^ 192) :
    (logFloor m : ℝ) ≤ 2 ^ 149 * Real.logb 2 (m / 2 ^ 149) ∧ 2 ^ 149 * Real.logb 2 (m / 2 ^ 149) < logFloor m + 2 := by
  have hm : (0 : ℝ) < m := by exact_mod_cast Nat.pos_of_ne_zero h0
  have e : m * 2 ^ 192 / 2 ^ m.log2 * 2 ^ m.log2 = m * 2 ^ 192 := Nat.div_mul_cancel hd
  have b1 : 2 ^ 192 ≤ m * 2 ^ 192 / 2 ^ m.log2 := by
    rw [Nat.le_div_iff_mul_le (by positivity), mul_comm]
    exact Nat.mul_le_mul_right _ (Nat.log2_self_le h0)
  have b2 : m * 2 ^ 192 / 2 ^ m.log2 < 2 ^ 193 := by
    rw [Nat.div_lt_iff_lt_mul (by positivity)]
    calc m * 2 ^ 192 < 2 ^ (m.log2 + 1) * 2 ^ 192 := Nat.mul_lt_mul_of_pos_right Nat.lt_log2_self (by positivity)
      _ = 2 ^ 193 * 2 ^ m.log2 := by ring
  obtain ⟨a, b⟩ := logBits_spec 149 _ 0 b1 b2
  have er : ((m * 2 ^ 192 / 2 ^ m.log2 : Nat) : ℝ) / 2 ^ 192 = m / 2 ^ m.log2 := by
    rw [div_eq_div_iff (by positivity) (by positivity)]
    exact_mod_cast e
  have el : Real.logb 2 (m / 2 ^ 149) = m.log2 - 149 + Real.logb 2 (m / 2 ^ m.log2) := by
    rw [Real.logb_div hm.ne' (by positivity), Real.logb_div hm.ne' (by positivity), Real.logb_pow, Real.logb_pow,
      Real.logb_self_eq_one (by norm_num)]
    push_cast
    ring
  rw [er, Nat.cast_zero, zero_add] at a b
  simp only [logFloor, el]
  push_cast
  have s : ((2 : ℝ) ^ 149 - 1) * (2 / 2 ^ 192) < 1 := by norm_num
  constructor <;> linarith

/-! ### The power of two -/

/-- `powBits` gives the power from below; every level loses at most 5 * 2^-192 of it. -/
theorem powBits_spec : ∀ (k g c acc : Nat) (r a e : ℝ), g < 2 ^ k → 2 ^ 192 ≤ c → 2 ^ 192 ≤ acc → 1 ≤ r → r ≤ 2 →
    c ≤ 2 ^ 192 * r → 2 ^ 192 * r * (1 - 4 / 2 ^ 192) ≤ c → acc ≤ a → 0 ≤ e → a * (1 - e) ≤ acc →
    2 ^ 192 ≤ powBits k g c acc ∧ (powBits k g c acc : ℝ) ≤ a * r ^ ((g : ℝ) / 2 ^ k) ∧
      a * r ^ ((g : ℝ) / 2 ^ k) * (1 - (e + k * (5 / 2 ^ 192))) ≤ powBits k g c acc := by
  intro k
  induction k with
  | zero =>
    intro g c acc r a e hg hc hacc hr1 hr2 hcu hcl hau he hal
    obtain rfl : g = 0 := by simpa using hg
    simpa [powBits] using ⟨hacc, hau, hal⟩
  | succ k ih =>
    intro g c acc r a e hg hc hacc hr1 hr2 hcu hcl hau he hal
    have hacc' : (2 ^ 192 : ℝ) ≤ acc := by exact_mod_cast hacc
    have ha : (2 ^ 192 : ℝ) ≤ a := hacc'.trans hau
    rw [powBits]
    split
    · rename_i h
      subst h
      refine ⟨hacc, by simpa using hau, le_trans ?_ hal⟩
      simp only [Nat.cast_zero, zero_div, Real.rpow_zero, mul_one]
      refine mul_le_mul_of_nonneg_left ?_ (by linarith)
      have : (0 : ℝ) ≤ (k + 1 : Nat) * (5 / 2 ^ 192) := by positivity
      linarith
    · have hc2 : (c : ℝ) ≤ 2 ^ 193 := hcu.trans (by linarith)
      have hc2' : c ≤ 2 ^ 193 := by exact_mod_cast hc2
      obtain ⟨r1, r2⟩ := rootBits_spec (c * 2 ^ 192) 193 0 (by simp) (by
        rw [zero_add]
        calc c * 2 ^ 192 ≤ 2 ^ 193 * 2 ^ 192 := Nat.mul_le_mul_right _ hc2'
          _ < 2 ^ 193 * 2 ^ 193 := by norm_num)
      simp only []
      generalize rootBits (c * 2 ^ 192) 193 0 = q at *
      have hq : 2 ^ 192 ≤ q := by
        by_contra hlt
        have : (q + 1) * (q + 1) ≤ 2 ^ 192 * 2 ^ 192 := Nat.mul_le_mul (by omega) (by omega)
        have := Nat.mul_le_mul_right (2 ^ 192) hc
        omega
      have hq' : (2 ^ 192 : ℝ) ≤ q := by exact_mod_cast hq
      have r1' : (q * q : ℝ) ≤ c * 2 ^ 192 := by exact_mod_cast r1
      have r2' : (c * 2 ^ 192 : ℝ) < (q + 1) * (q + 1) := by exact_mod_cast r2
      obtain ⟨σ, hσ⟩ : ∃ σ, σ = √r := ⟨_, rfl⟩
      have hσσ : σ * σ = r := by rw [hσ]; exact Real.mul_self_sqrt (by linarith)
      have hσ1 : 1 ≤ σ := by rw [hσ]; exact Real.one_le_sqrt.2 hr1
      have hσ2 : σ ≤ 2 := by nlinarith
      have hσr : r ^ ((g : ℝ) / 2 ^ (k + 1)) = σ ^ ((g : ℝ) / 2 ^ k) := by
        rw [hσ, Real.sqrt_eq_rpow, ← Real.rpow_mul (by linarith)]
        congr 1
        rw [pow_succ]
        field_simp
      have hqu : (q : ℝ) ≤ 2 ^ 192 * σ := by
        refine (mul_self_le_mul_self_iff (by positivity) (by positivity)).2 (r1'.trans ?_)
        calc (c : ℝ) * 2 ^ 192 ≤ 2 ^ 192 * r * 2 ^ 192 := by gcongr
          _ = 2 ^ 192 * σ * (2 ^ 192 * σ) := by rw [← hσσ]; ring
      have hql : 2 ^ 192 * σ * (1 - 4 / 2 ^ 192) ≤ q := by
        have h3 : 2 ^ 192 * σ * (1 - 3 / 2 ^ 192) < q + 1 := by
          refine lt_of_mul_self_lt_mul_self₀ (by positivity) (lt_of_le_of_lt ?_ r2')
          have hs : ((1 : ℝ) - 3 / 2 ^ 192) * (1 - 3 / 2 ^ 192) ≤ 1 - 4 / 2 ^ 192 := by norm_num
          calc 2 ^ 192 * σ * (1 - 3 / 2 ^ 192) * (2 ^ 192 * σ * (1 - 3 / 2 ^ 192))
              = 2 ^ 192 * r * (((1 : ℝ) - 3 / 2 ^ 192) * (1 - 3 / 2 ^ 192)) * 2 ^ 192 := by rw [← hσσ]; ring
            _ ≤ 2 ^ 192 * r * (1 - 4 / 2 ^ 192) * 2 ^ 192 := by gcongr
            _ ≤ c * 2 ^ 192 := by gcongr
        have : 2 ^ 192 * σ * (1 - 4 / 2 ^ 192) = 2 ^ 192 * σ * (1 - 3 / 2 ^ 192) - σ := by ring
        linarith
      rw [hσr]
      have hk : ((k + 1 : Nat) : ℝ) * (5 / 2 ^ 192) = k * (5 / 2 ^ 192) + 5 / 2 ^ 192 := by push_cast; ring
      by_cases hb : 2 ^ k ≤ g
      · have hm : g % 2 ^ k + 2 ^ k = g := by
          rw [Nat.mod_eq_sub_mod hb, Nat.mod_eq_of_lt (by rw [pow_succ] at hg; omega)]
          omega
        have hgm : (g : ℝ) / 2 ^ k = ((g % 2 ^ k : Nat) : ℝ) / 2 ^ k + 1 := by
          rw [div_add_one (by positivity)]
          congr 1
          exact_mod_cast hm.symm
        rw [if_pos hb, hgm, Real.rpow_add (by linarith), Real.rpow_one]
        obtain ⟨hpl, hpu⟩ := div_bounds (acc * q)
        rw [Nat.cast_mul] at hpl hpu
        have hnew : 2 ^ 192 ≤ acc * q / 2 ^ 192 :=
          (Nat.le_div_iff_mul_le (by positivity)).2 (Nat.mul_le_mul hacc hq)
        generalize acc * q / 2 ^ 192 = p at *
        have := ih (g % 2 ^ k) q p σ (a * σ) (e + 5 / 2 ^ 192) (Nat.mod_lt _ (by positivity)) hq hnew hσ1 hσ2 hqu hql
          (hpl.trans (by
            rw [div_le_iff₀ (by positivity)]
            calc (acc : ℝ) * q ≤ a * (2 ^ 192 * σ) := by gcongr
              _ = a * σ * 2 ^ 192 := by ring)) (by positivity) (by
            have h1 : a * (1 - e) * (2 ^ 192 * σ * (1 - 4 / 2 ^ 192)) ≤ acc * q := by
              by_cases he1 : e ≤ 1
              · exact mul_le_mul hal hql (by norm_num; positivity) (by positivity)
              · refine le_trans ?_ (show (0 : ℝ) ≤ acc * q by positivity)
                exact mul_nonpos_of_nonpos_of_nonneg (mul_nonpos_of_nonneg_of_nonpos (by linarith) (by linarith))
                  (by norm_num; positivity)
            have h2 : a * (1 - e) * (2 ^ 192 * σ * (1 - 4 / 2 ^ 192)) / 2 ^ 192 ≤ p + 1 :=
              (div_le_div_of_nonneg_right h1 (by positivity)).trans hpu
            have h3 : a * (1 - e) * (2 ^ 192 * σ * (1 - 4 / 2 ^ 192)) / 2 ^ 192 =
                a * σ * (1 - e - 4 / 2 ^ 192) + a * σ * (e * (4 / 2 ^ 192)) := by
              field_simp
              ring
            have h4 : 0 ≤ a * σ * (e * (4 / 2 ^ 192)) := by positivity
            have h5 : 1 ≤ a * σ * (1 / 2 ^ 192) := by
              have : (2 ^ 192 : ℝ) * 1 ≤ a * σ := mul_le_mul ha hσ1 (by norm_num) (by linarith)
              rw [mul_one_div, le_div_iff₀ (by positivity)]
              linarith
            have h6 : a * σ * (1 - (e + 5 / 2 ^ 192)) = a * σ * (1 - e - 4 / 2 ^ 192) - a * σ * (1 / 2 ^ 192) := by ring
            linarith)
        refine ⟨this.1, this.2.1.trans (le_of_eq (by ring)), le_trans (le_of_eq ?_) this.2.2⟩
        rw [hk]
        ring
      · rw [if_neg hb, Nat.mod_eq_of_lt (by omega)]
        have := ih g q acc σ a e (by omega) hq hacc hσ1 hσ2 hqu hql hau he hal
        refine ⟨this.1, this.2.1, le_trans (mul_le_mul_of_nonneg_left ?_ (by positivity)) this.2.2⟩
        rw [hk]
        have : (0 : ℝ) ≤ 5 / 2 ^ 192 := by positivity
        linarith

/-- The power `2^(g / 2^149)`, in units of 2^-192, lies between the bounds. -/
theorem powBounds_spec {g : Nat} (hg : g < 2 ^ 149) :
    2 ^ 192 ≤ (powBounds g).1 ∧ ((powBounds g).1 : ℝ) ≤ 2 ^ 192 * (2 : ℝ) ^ ((g : ℝ) / 2 ^ 149) ∧
      2 ^ 192 * (2 : ℝ) ^ ((g : ℝ) / 2 ^ 149) ≤ (powBounds g).2 := by
  have h1 : (1 : ℝ) ≤ (2 : ℝ) ^ ((g : ℝ) / 2 ^ 149) := Real.one_le_rpow (by norm_num) (by positivity)
  have h2 : (2 : ℝ) ^ ((g : ℝ) / 2 ^ 149) ≤ 2 := by
    have h : ((g : ℝ) / 2 ^ 149) ≤ 1 := by
      rw [div_le_one (by positivity)]
      exact_mod_cast hg.le
    simpa using Real.rpow_le_rpow_of_exponent_le (by norm_num : (1 : ℝ) ≤ 2) h
  obtain ⟨l, a, b⟩ := powBits_spec 149 g (2 ^ 193) (2 ^ 192) 2 (2 ^ 192) 0 hg (by norm_num) le_rfl (by norm_num) le_rfl
    (by norm_num) (by norm_num) (by norm_num) le_rfl (by norm_num)
  simp only [powBounds]
  generalize powBits 149 g (2 ^ 193) (2 ^ 192) = p at *
  generalize (2 : ℝ) ^ ((g : ℝ) / 2 ^ 149) = t at *
  refine ⟨l, a, ?_⟩
  push_cast
  norm_num at b ⊢
  nlinarith

/-! ### What the tests admit -/

/-- `nearest` is within half a unit of the quotient. -/
theorem nearest_spec (num : Nat) {den : Nat} (hd : 0 < den) :
    2 * (nearest num den * den) ≤ 2 * num + den ∧ 2 * num ≤ 2 * (nearest num den * den) + den := by
  have h := Nat.div_add_mod' num den
  have hr := Nat.mod_lt num hd
  simp only [nearest]
  split <;> rename_i c <;> constructor <;> first | omega | (rw [Nat.add_mul (num / den) 1 den]; omega)

/-- A finite positive word's value is its magnitude. -/
theorem ratOf_of_pos {e : Word} (h : signOf e = false) : (ratOf e : ℝ) = magOf e / 2 ^ 149 := by
  simp [ratOf, valueOf, h]

/-- A word that `logOk` admits between two bounds of the logarithm is within the bound of rule R270. -/
theorem logOk_bound {x e : Word} {lo hi : Int} (h : logOk lo hi e = true)
    (h1 : (lo : ℝ) ≤ 2 ^ 149 * Real.logb 2 (ratOf x)) (h2 : 2 ^ 149 * Real.logb 2 (ratOf x) ≤ hi) : LogBound x e := by
  simp only [logOk, Bool.and_eq_true, Bool.not_eq_true', decide_eq_true_eq] at h
  obtain ⟨⟨⟨hn, hi'⟩, hl⟩, hu⟩ := h
  simp only [LogBound]
  generalize Real.logb 2 (ratOf x) = l at *
  have hb : min (2 ^ 147) (max lo (-hi)) ≤ 2 ^ 147 ∧
      (min (2 ^ 147) (max lo (-hi)) ≤ lo ∨ min (2 ^ 147) (max lo (-hi)) ≤ -hi) := by omega
  generalize min (2 ^ 147) (max lo (-hi)) = b at *
  have hl' : 8 * (hi : ℝ) - b ≤ 8 * valueOf e := by exact_mod_cast hl
  have hu' : 8 * (valueOf e : ℝ) ≤ 8 * lo + b := by exact_mod_cast hu
  have hb1 : (b : ℝ) ≤ 2 ^ 147 := by exact_mod_cast hb.1
  have hb2 : (b : ℝ) ≤ 2 ^ 149 * |l| := by
    rcases hb.2 with c | c
    · have : (b : ℝ) ≤ lo := by exact_mod_cast c
      nlinarith [le_abs_self l]
    · have : (b : ℝ) ≤ -hi := by exact_mod_cast c
      nlinarith [neg_le_abs l]
  have e1 : (ratOf e : ℝ) = valueOf e / 2 ^ 149 := by simp [ratOf]
  have e2 : (valueOf e : ℝ) = 2 ^ 149 * (valueOf e / 2 ^ 149) := by field_simp
  rw [e1]
  rw [e2] at hl' hu'
  generalize (valueOf e : ℝ) / 2 ^ 149 = v at *
  refine ⟨hn, hi', abs_le.2 ⟨?_, ?_⟩, abs_le.2 ⟨?_, ?_⟩⟩ <;> norm_num at * <;> linarith

/-- A word that `powOk` admits between two bounds of a power is within the bound of rule R271, or stands for an overflow or
a result below 2^-126 as the rules R243, R245 and R271 let it. -/
theorem powOk_bound {nj tiny : Bool} {lo hi den : Nat} {e : Word} {p : ℝ} (h : powOk nj tiny lo hi den e = true)
    (hd : 0 < den) (h1 : (lo : ℝ) ≤ den * (2 ^ 149 * p)) (h2 : den * (2 ^ 149 * p) ≤ hi) :
    signOf e = false ∧ isNaN e = false ∧ (isInf e = true → 2 ^ 128 - 2 ^ 103 ≤ 17 / 16 * p) ∧
      (isInf e = false → tiny = false →
        if nj = true ∧ magOf e = 0 then 15 / 16 * p < 1 / 2 ^ 126
        else (nj = true → 2 ^ 23 ≤ magOf e) ∧ |ratOf e - p| ≤ p / 16) ∧
      (isInf e = false → tiny = true → magOf e ≤ 2 ^ 23 ∧ |ratOf e - p| ≤ p / 16 + 1 / 2 ^ 150) := by
  have hd' : (0 : ℝ) < den := by exact_mod_cast hd
  simp only [powOk] at h
  split at h
  · cases h
  rename_i hs
  simp only [Bool.or_eq_true, not_or, Bool.not_eq_true] at hs
  refine ⟨hs.1, hs.2, ?_⟩
  rw [ratOf_of_pos hs.1]
  have bound : ∀ {a b c : ℝ}, den * (a * b) ≤ den * (a * c) → 0 < a → b ≤ c := fun k ha =>
    le_of_mul_le_mul_left (le_of_mul_le_mul_left k hd') ha
  split at h
  · rename_i hinf
    refine ⟨fun _ => ?_, fun k => by simp [hinf] at k, fun k => by simp [hinf] at k⟩
    generalize hk : 2 ^ 277 - 2 ^ 252 = k at h
    have h : (k : ℝ) * (16 * den) ≤ 17 * lo := by exact_mod_cast of_decide_eq_true h
    have hk : (k : ℝ) = 2 ^ 149 * (2 ^ 128 - 2 ^ 103) := by
      rw [← hk, Nat.cast_sub (Nat.pow_le_pow_right (by decide) (by decide)), mul_sub, ← pow_add, ← pow_add]
      simp only [Nat.cast_pow, Nat.cast_ofNat, Nat.reduceAdd]
    rw [hk] at h
    refine bound (a := 2 ^ 149) ?_ (by positivity)
    nlinarith
  rename_i hinf
  refine ⟨fun k => absurd k hinf, ?_⟩
  have e1 : (magOf e : ℝ) = 2 ^ 149 * (magOf e / 2 ^ 149) := by field_simp
  split at h
  · rename_i ht
    refine ⟨fun _ k => by simp [ht] at k, fun _ _ => ?_⟩
    simp only [Bool.and_eq_true, decide_eq_true_eq, le_min_iff] at h
    refine ⟨h.2.2, ?_⟩
    have a := (nearest_spec (15 * hi) (show 0 < 16 * den by omega)).2
    have b := (nearest_spec (17 * lo) (show 0 < 16 * den by omega)).1
    have a' : 2 * (15 * hi) ≤ 2 * (magOf e * (16 * den)) + 16 * den :=
      a.trans (by have := Nat.mul_le_mul_right (16 * den) h.1; omega)
    have b' : 2 * (magOf e * (16 * den)) ≤ 2 * (17 * lo) + 16 * den :=
      le_trans (by have := Nat.mul_le_mul_right (16 * den) h.2.1; omega) b
    have a'' : 2 * (15 * (hi : ℝ)) ≤ 2 * (magOf e * (16 * den)) + 16 * den := by exact_mod_cast a'
    have b'' : 2 * ((magOf e : ℝ) * (16 * den)) ≤ 2 * (17 * lo) + 16 * den := by exact_mod_cast b'
    rw [e1] at a'' b''
    generalize (magOf e : ℝ) / 2 ^ 149 = v at *
    rw [abs_le]
    constructor <;> refine bound (a := 2 ^ 149) ?_ (by positivity) <;> norm_num at * <;> nlinarith
  · rename_i ht
    refine ⟨fun _ _ => ?_, fun _ k => absurd k ht⟩
    split at h
    · rename_i hz
      simp only [Bool.and_eq_true, beq_iff_eq, decide_eq_true_eq] at h hz
      rw [if_pos ⟨hz.1, h.1⟩]
      have k : 15 * (hi : ℝ) < 2 ^ 23 * (16 * den) := by exact_mod_cast h.2
      refine lt_of_mul_lt_mul_left (lt_of_mul_lt_mul_left (a := (den : ℝ)) ?_ hd'.le) (show (0 : ℝ) ≤ 2 ^ 149 by positivity)
      norm_num at *
      nlinarith
    · rename_i hz
      simp only [Bool.and_eq_true, decide_eq_true_eq] at h hz
      rw [if_neg (fun k => hz ⟨k.1, by omega⟩)]
      refine ⟨fun k => not_lt.1 fun c => hz ⟨k, c⟩, ?_⟩
      have a : 15 * (hi : ℝ) ≤ magOf e * (16 * den) := by exact_mod_cast h.1
      have b : (magOf e : ℝ) * (16 * den) ≤ 17 * lo := by exact_mod_cast h.2
      rw [e1] at a b
      generalize (magOf e : ℝ) / 2 ^ 149 = v at *
      rw [abs_le]
      constructor <;> refine bound (a := 2 ^ 149) ?_ (by positivity) <;> norm_num at * <;> nlinarith

end Sys2Proof.Machine
end

