-- ==== Sys2Proof/Laws/State.lean ====
section
/-! SUPPORT. One lemma for each field and each update of the state: what the field is afterwards. -/

namespace Sys2Proof.Machine

open Sys2Proof

/-! ### `State.setVr` -/

@[simp] theorem setVr_vrs (s : State) (r : Reg) (v : Vec) : (s.setVr r v).vrs = s.vrs.set r.toNat v r.isLt := rfl
@[simp] theorem setVr_vscr (s : State) (r : Reg) (v : Vec) : (s.setVr r v).vscr = s.vscr := rfl
@[simp] theorem setVr_vrsave (s : State) (r : Reg) (v : Vec) : (s.setVr r v).vrsave = s.vrsave := rfl
@[simp] theorem setVr_cr (s : State) (r : Reg) (v : Vec) : (s.setVr r v).cr = s.cr := rfl
@[simp] theorem setVr_gprs (s : State) (r : Reg) (v : Vec) : (s.setVr r v).gprs = s.gprs := rfl
@[simp] theorem setVr_ctr (s : State) (r : Reg) (v : Vec) : (s.setVr r v).ctr = s.ctr := rfl
@[simp] theorem setVr_lr (s : State) (r : Reg) (v : Vec) : (s.setVr r v).lr = s.lr := rfl
@[simp] theorem setVr_xerCA (s : State) (r : Reg) (v : Vec) : (s.setVr r v).xerCA = s.xerCA := rfl
@[simp] theorem setVr_pc (s : State) (r : Reg) (v : Vec) : (s.setVr r v).pc = s.pc := rfl
@[simp] theorem setVr_msr (s : State) (r : Reg) (v : Vec) : (s.setVr r v).msr = s.msr := rfl
@[simp] theorem setVr_srr0 (s : State) (r : Reg) (v : Vec) : (s.setVr r v).srr0 = s.srr0 := rfl
@[simp] theorem setVr_srr1 (s : State) (r : Reg) (v : Vec) : (s.setVr r v).srr1 = s.srr1 := rfl
@[simp] theorem setVr_gsrr0 (s : State) (r : Reg) (v : Vec) : (s.setVr r v).gsrr0 = s.gsrr0 := rfl
@[simp] theorem setVr_gsrr1 (s : State) (r : Reg) (v : Vec) : (s.setVr r v).gsrr1 = s.gsrr1 := rfl
@[simp] theorem setVr_esr (s : State) (r : Reg) (v : Vec) : (s.setVr r v).esr = s.esr := rfl
@[simp] theorem setVr_gesr (s : State) (r : Reg) (v : Vec) : (s.setVr r v).gesr = s.gesr := rfl
@[simp] theorem setVr_dear (s : State) (r : Reg) (v : Vec) : (s.setVr r v).dear = s.dear := rfl
@[simp] theorem setVr_ivpr (s : State) (r : Reg) (v : Vec) : (s.setVr r v).ivpr = s.ivpr := rfl
@[simp] theorem setVr_ivor2 (s : State) (r : Reg) (v : Vec) : (s.setVr r v).ivor2 = s.ivor2 := rfl
@[simp] theorem setVr_ivor5 (s : State) (r : Reg) (v : Vec) : (s.setVr r v).ivor5 = s.ivor5 := rfl
@[simp] theorem setVr_ivor6 (s : State) (r : Reg) (v : Vec) : (s.setVr r v).ivor6 = s.ivor6 := rfl
@[simp] theorem setVr_ivor13 (s : State) (r : Reg) (v : Vec) : (s.setVr r v).ivor13 = s.ivor13 := rfl
@[simp] theorem setVr_ivor32 (s : State) (r : Reg) (v : Vec) : (s.setVr r v).ivor32 = s.ivor32 := rfl
@[simp] theorem setVr_ivor33 (s : State) (r : Reg) (v : Vec) : (s.setVr r v).ivor33 = s.ivor33 := rfl
@[simp] theorem setVr_eplc (s : State) (r : Reg) (v : Vec) : (s.setVr r v).eplc = s.eplc := rfl
@[simp] theorem setVr_epsc (s : State) (r : Reg) (v : Vec) : (s.setVr r v).epsc = s.epsc := rfl
@[simp] theorem setVr_pid (s : State) (r : Reg) (v : Vec) : (s.setVr r v).pid = s.pid := rfl
@[simp] theorem setVr_lpidr (s : State) (r : Reg) (v : Vec) : (s.setVr r v).lpidr = s.lpidr := rfl
@[simp] theorem setVr_mode64 (s : State) (r : Reg) (v : Vec) : (s.setVr r v).mode64 = s.mode64 := rfl
@[simp] theorem setVr_cfg (s : State) (r : Reg) (v : Vec) : (s.setVr r v).cfg = s.cfg := rfl
@[simp] theorem setVr_xlat (s : State) (r : Reg) (v : Vec) : (s.setVr r v).xlat = s.xlat := rfl
@[simp] theorem setVr_mem (s : State) (r : Reg) (v : Vec) : (s.setVr r v).mem = s.mem := rfl
@[simp] theorem setVr_freeCtr (s : State) (r : Reg) (v : Vec) : (s.setVr r v).freeCtr = s.freeCtr := rfl

/-! ### `State.setGpr` -/

@[simp] theorem setGpr_vrs (s : State) (r : Reg) (v : DWord) : (s.setGpr r v).vrs = s.vrs := rfl
@[simp] theorem setGpr_vscr (s : State) (r : Reg) (v : DWord) : (s.setGpr r v).vscr = s.vscr := rfl
@[simp] theorem setGpr_vrsave (s : State) (r : Reg) (v : DWord) : (s.setGpr r v).vrsave = s.vrsave := rfl
@[simp] theorem setGpr_cr (s : State) (r : Reg) (v : DWord) : (s.setGpr r v).cr = s.cr := rfl
@[simp] theorem setGpr_gprs (s : State) (r : Reg) (v : DWord) :
    (s.setGpr r v).gprs = s.gprs.set r.toNat (Cfg.toXlen s.cfg v) r.isLt := rfl
@[simp] theorem setGpr_ctr (s : State) (r : Reg) (v : DWord) : (s.setGpr r v).ctr = s.ctr := rfl
@[simp] theorem setGpr_lr (s : State) (r : Reg) (v : DWord) : (s.setGpr r v).lr = s.lr := rfl
@[simp] theorem setGpr_xerCA (s : State) (r : Reg) (v : DWord) : (s.setGpr r v).xerCA = s.xerCA := rfl
@[simp] theorem setGpr_pc (s : State) (r : Reg) (v : DWord) : (s.setGpr r v).pc = s.pc := rfl
@[simp] theorem setGpr_msr (s : State) (r : Reg) (v : DWord) : (s.setGpr r v).msr = s.msr := rfl
@[simp] theorem setGpr_srr0 (s : State) (r : Reg) (v : DWord) : (s.setGpr r v).srr0 = s.srr0 := rfl
@[simp] theorem setGpr_srr1 (s : State) (r : Reg) (v : DWord) : (s.setGpr r v).srr1 = s.srr1 := rfl
@[simp] theorem setGpr_gsrr0 (s : State) (r : Reg) (v : DWord) : (s.setGpr r v).gsrr0 = s.gsrr0 := rfl
@[simp] theorem setGpr_gsrr1 (s : State) (r : Reg) (v : DWord) : (s.setGpr r v).gsrr1 = s.gsrr1 := rfl
@[simp] theorem setGpr_esr (s : State) (r : Reg) (v : DWord) : (s.setGpr r v).esr = s.esr := rfl
@[simp] theorem setGpr_gesr (s : State) (r : Reg) (v : DWord) : (s.setGpr r v).gesr = s.gesr := rfl
@[simp] theorem setGpr_dear (s : State) (r : Reg) (v : DWord) : (s.setGpr r v).dear = s.dear := rfl
@[simp] theorem setGpr_ivpr (s : State) (r : Reg) (v : DWord) : (s.setGpr r v).ivpr = s.ivpr := rfl
@[simp] theorem setGpr_ivor2 (s : State) (r : Reg) (v : DWord) : (s.setGpr r v).ivor2 = s.ivor2 := rfl
@[simp] theorem setGpr_ivor5 (s : State) (r : Reg) (v : DWord) : (s.setGpr r v).ivor5 = s.ivor5 := rfl
@[simp] theorem setGpr_ivor6 (s : State) (r : Reg) (v : DWord) : (s.setGpr r v).ivor6 = s.ivor6 := rfl
@[simp] theorem setGpr_ivor13 (s : State) (r : Reg) (v : DWord) : (s.setGpr r v).ivor13 = s.ivor13 := rfl
@[simp] theorem setGpr_ivor32 (s : State) (r : Reg) (v : DWord) : (s.setGpr r v).ivor32 = s.ivor32 := rfl
@[simp] theorem setGpr_ivor33 (s : State) (r : Reg) (v : DWord) : (s.setGpr r v).ivor33 = s.ivor33 := rfl
@[simp] theorem setGpr_eplc (s : State) (r : Reg) (v : DWord) : (s.setGpr r v).eplc = s.eplc := rfl
@[simp] theorem setGpr_epsc (s : State) (r : Reg) (v : DWord) : (s.setGpr r v).epsc = s.epsc := rfl
@[simp] theorem setGpr_pid (s : State) (r : Reg) (v : DWord) : (s.setGpr r v).pid = s.pid := rfl
@[simp] theorem setGpr_lpidr (s : State) (r : Reg) (v : DWord) : (s.setGpr r v).lpidr = s.lpidr := rfl
@[simp] theorem setGpr_mode64 (s : State) (r : Reg) (v : DWord) : (s.setGpr r v).mode64 = s.mode64 := rfl
@[simp] theorem setGpr_cfg (s : State) (r : Reg) (v : DWord) : (s.setGpr r v).cfg = s.cfg := rfl
@[simp] theorem setGpr_xlat (s : State) (r : Reg) (v : DWord) : (s.setGpr r v).xlat = s.xlat := rfl
@[simp] theorem setGpr_mem (s : State) (r : Reg) (v : DWord) : (s.setGpr r v).mem = s.mem := rfl
@[simp] theorem setGpr_freeCtr (s : State) (r : Reg) (v : DWord) : (s.setGpr r v).freeCtr = s.freeCtr := rfl

/-! ### `State.setPc` -/

@[simp] theorem setPc_vrs (s : State) (a : DWord) : (s.setPc a).vrs = s.vrs := rfl
@[simp] theorem setPc_vscr (s : State) (a : DWord) : (s.setPc a).vscr = s.vscr := rfl
@[simp] theorem setPc_vrsave (s : State) (a : DWord) : (s.setPc a).vrsave = s.vrsave := rfl
@[simp] theorem setPc_cr (s : State) (a : DWord) : (s.setPc a).cr = s.cr := rfl
@[simp] theorem setPc_gprs (s : State) (a : DWord) : (s.setPc a).gprs = s.gprs := rfl
@[simp] theorem setPc_ctr (s : State) (a : DWord) : (s.setPc a).ctr = s.ctr := rfl
@[simp] theorem setPc_lr (s : State) (a : DWord) : (s.setPc a).lr = s.lr := rfl
@[simp] theorem setPc_xerCA (s : State) (a : DWord) : (s.setPc a).xerCA = s.xerCA := rfl
@[simp] theorem setPc_pc (s : State) (a : DWord) : (s.setPc a).pc = s.modeAddr a := rfl
@[simp] theorem setPc_msr (s : State) (a : DWord) : (s.setPc a).msr = s.msr := rfl
@[simp] theorem setPc_srr0 (s : State) (a : DWord) : (s.setPc a).srr0 = s.srr0 := rfl
@[simp] theorem setPc_srr1 (s : State) (a : DWord) : (s.setPc a).srr1 = s.srr1 := rfl
@[simp] theorem setPc_gsrr0 (s : State) (a : DWord) : (s.setPc a).gsrr0 = s.gsrr0 := rfl
@[simp] theorem setPc_gsrr1 (s : State) (a : DWord) : (s.setPc a).gsrr1 = s.gsrr1 := rfl
@[simp] theorem setPc_esr (s : State) (a : DWord) : (s.setPc a).esr = s.esr := rfl
@[simp] theorem setPc_gesr (s : State) (a : DWord) : (s.setPc a).gesr = s.gesr := rfl
@[simp] theorem setPc_dear (s : State) (a : DWord) : (s.setPc a).dear = s.dear := rfl
@[simp] theorem setPc_ivpr (s : State) (a : DWord) : (s.setPc a).ivpr = s.ivpr := rfl
@[simp] theorem setPc_ivor2 (s : State) (a : DWord) : (s.setPc a).ivor2 = s.ivor2 := rfl
@[simp] theorem setPc_ivor5 (s : State) (a : DWord) : (s.setPc a).ivor5 = s.ivor5 := rfl
@[simp] theorem setPc_ivor6 (s : State) (a : DWord) : (s.setPc a).ivor6 = s.ivor6 := rfl
@[simp] theorem setPc_ivor13 (s : State) (a : DWord) : (s.setPc a).ivor13 = s.ivor13 := rfl
@[simp] theorem setPc_ivor32 (s : State) (a : DWord) : (s.setPc a).ivor32 = s.ivor32 := rfl
@[simp] theorem setPc_ivor33 (s : State) (a : DWord) : (s.setPc a).ivor33 = s.ivor33 := rfl
@[simp] theorem setPc_eplc (s : State) (a : DWord) : (s.setPc a).eplc = s.eplc := rfl
@[simp] theorem setPc_epsc (s : State) (a : DWord) : (s.setPc a).epsc = s.epsc := rfl
@[simp] theorem setPc_pid (s : State) (a : DWord) : (s.setPc a).pid = s.pid := rfl
@[simp] theorem setPc_lpidr (s : State) (a : DWord) : (s.setPc a).lpidr = s.lpidr := rfl
@[simp] theorem setPc_mode64 (s : State) (a : DWord) : (s.setPc a).mode64 = s.mode64 := rfl
@[simp] theorem setPc_cfg (s : State) (a : DWord) : (s.setPc a).cfg = s.cfg := rfl
@[simp] theorem setPc_xlat (s : State) (a : DWord) : (s.setPc a).xlat = s.xlat := rfl
@[simp] theorem setPc_mem (s : State) (a : DWord) : (s.setPc a).mem = s.mem := rfl
@[simp] theorem setPc_freeCtr (s : State) (a : DWord) : (s.setPc a).freeCtr = s.freeCtr := rfl

/-! ### `State.advance` -/

@[simp] theorem advance_vrs (s : State) : (s.advance).vrs = s.vrs := rfl
@[simp] theorem advance_vscr (s : State) : (s.advance).vscr = s.vscr := rfl
@[simp] theorem advance_vrsave (s : State) : (s.advance).vrsave = s.vrsave := rfl
@[simp] theorem advance_cr (s : State) : (s.advance).cr = s.cr := rfl
@[simp] theorem advance_gprs (s : State) : (s.advance).gprs = s.gprs := rfl
@[simp] theorem advance_ctr (s : State) : (s.advance).ctr = s.ctr := rfl
@[simp] theorem advance_lr (s : State) : (s.advance).lr = s.lr := rfl
@[simp] theorem advance_xerCA (s : State) : (s.advance).xerCA = s.xerCA := rfl
@[simp] theorem advance_pc (s : State) : (s.advance).pc = s.modeAddr (s.pc + 4) := rfl
@[simp] theorem advance_msr (s : State) : (s.advance).msr = s.msr := rfl
@[simp] theorem advance_srr0 (s : State) : (s.advance).srr0 = s.srr0 := rfl
@[simp] theorem advance_srr1 (s : State) : (s.advance).srr1 = s.srr1 := rfl
@[simp] theorem advance_gsrr0 (s : State) : (s.advance).gsrr0 = s.gsrr0 := rfl
@[simp] theorem advance_gsrr1 (s : State) : (s.advance).gsrr1 = s.gsrr1 := rfl
@[simp] theorem advance_esr (s : State) : (s.advance).esr = s.esr := rfl
@[simp] theorem advance_gesr (s : State) : (s.advance).gesr = s.gesr := rfl
@[simp] theorem advance_dear (s : State) : (s.advance).dear = s.dear := rfl
@[simp] theorem advance_ivpr (s : State) : (s.advance).ivpr = s.ivpr := rfl
@[simp] theorem advance_ivor2 (s : State) : (s.advance).ivor2 = s.ivor2 := rfl
@[simp] theorem advance_ivor5 (s : State) : (s.advance).ivor5 = s.ivor5 := rfl
@[simp] theorem advance_ivor6 (s : State) : (s.advance).ivor6 = s.ivor6 := rfl
@[simp] theorem advance_ivor13 (s : State) : (s.advance).ivor13 = s.ivor13 := rfl
@[simp] theorem advance_ivor32 (s : State) : (s.advance).ivor32 = s.ivor32 := rfl
@[simp] theorem advance_ivor33 (s : State) : (s.advance).ivor33 = s.ivor33 := rfl
@[simp] theorem advance_eplc (s : State) : (s.advance).eplc = s.eplc := rfl
@[simp] theorem advance_epsc (s : State) : (s.advance).epsc = s.epsc := rfl
@[simp] theorem advance_pid (s : State) : (s.advance).pid = s.pid := rfl
@[simp] theorem advance_lpidr (s : State) : (s.advance).lpidr = s.lpidr := rfl
@[simp] theorem advance_mode64 (s : State) : (s.advance).mode64 = s.mode64 := rfl
@[simp] theorem advance_cfg (s : State) : (s.advance).cfg = s.cfg := rfl
@[simp] theorem advance_xlat (s : State) : (s.advance).xlat = s.xlat := rfl
@[simp] theorem advance_mem (s : State) : (s.advance).mem = s.mem := rfl
@[simp] theorem advance_freeCtr (s : State) : (s.advance).freeCtr = s.freeCtr := rfl

/-! ### `State.orSat` -/

@[simp] theorem orSat_vrs (s : State) (b : Bool) : (s.orSat b).vrs = s.vrs := rfl
@[simp] theorem orSat_vscr (s : State) (b : Bool) :
    (s.orSat b).vscr = s.vscr ||| (BitVec.ofBool b).setWidth 32 := rfl
@[simp] theorem orSat_vrsave (s : State) (b : Bool) : (s.orSat b).vrsave = s.vrsave := rfl
@[simp] theorem orSat_cr (s : State) (b : Bool) : (s.orSat b).cr = s.cr := rfl
@[simp] theorem orSat_gprs (s : State) (b : Bool) : (s.orSat b).gprs = s.gprs := rfl
@[simp] theorem orSat_ctr (s : State) (b : Bool) : (s.orSat b).ctr = s.ctr := rfl
@[simp] theorem orSat_lr (s : State) (b : Bool) : (s.orSat b).lr = s.lr := rfl
@[simp] theorem orSat_xerCA (s : State) (b : Bool) : (s.orSat b).xerCA = s.xerCA := rfl
@[simp] theorem orSat_pc (s : State) (b : Bool) : (s.orSat b).pc = s.pc := rfl
@[simp] theorem orSat_msr (s : State) (b : Bool) : (s.orSat b).msr = s.msr := rfl
@[simp] theorem orSat_srr0 (s : State) (b : Bool) : (s.orSat b).srr0 = s.srr0 := rfl
@[simp] theorem orSat_srr1 (s : State) (b : Bool) : (s.orSat b).srr1 = s.srr1 := rfl
@[simp] theorem orSat_gsrr0 (s : State) (b : Bool) : (s.orSat b).gsrr0 = s.gsrr0 := rfl
@[simp] theorem orSat_gsrr1 (s : State) (b : Bool) : (s.orSat b).gsrr1 = s.gsrr1 := rfl
@[simp] theorem orSat_esr (s : State) (b : Bool) : (s.orSat b).esr = s.esr := rfl
@[simp] theorem orSat_gesr (s : State) (b : Bool) : (s.orSat b).gesr = s.gesr := rfl
@[simp] theorem orSat_dear (s : State) (b : Bool) : (s.orSat b).dear = s.dear := rfl
@[simp] theorem orSat_ivpr (s : State) (b : Bool) : (s.orSat b).ivpr = s.ivpr := rfl
@[simp] theorem orSat_ivor2 (s : State) (b : Bool) : (s.orSat b).ivor2 = s.ivor2 := rfl
@[simp] theorem orSat_ivor5 (s : State) (b : Bool) : (s.orSat b).ivor5 = s.ivor5 := rfl
@[simp] theorem orSat_ivor6 (s : State) (b : Bool) : (s.orSat b).ivor6 = s.ivor6 := rfl
@[simp] theorem orSat_ivor13 (s : State) (b : Bool) : (s.orSat b).ivor13 = s.ivor13 := rfl
@[simp] theorem orSat_ivor32 (s : State) (b : Bool) : (s.orSat b).ivor32 = s.ivor32 := rfl
@[simp] theorem orSat_ivor33 (s : State) (b : Bool) : (s.orSat b).ivor33 = s.ivor33 := rfl
@[simp] theorem orSat_eplc (s : State) (b : Bool) : (s.orSat b).eplc = s.eplc := rfl
@[simp] theorem orSat_epsc (s : State) (b : Bool) : (s.orSat b).epsc = s.epsc := rfl
@[simp] theorem orSat_pid (s : State) (b : Bool) : (s.orSat b).pid = s.pid := rfl
@[simp] theorem orSat_lpidr (s : State) (b : Bool) : (s.orSat b).lpidr = s.lpidr := rfl
@[simp] theorem orSat_mode64 (s : State) (b : Bool) : (s.orSat b).mode64 = s.mode64 := rfl
@[simp] theorem orSat_cfg (s : State) (b : Bool) : (s.orSat b).cfg = s.cfg := rfl
@[simp] theorem orSat_xlat (s : State) (b : Bool) : (s.orSat b).xlat = s.xlat := rfl
@[simp] theorem orSat_mem (s : State) (b : Bool) : (s.orSat b).mem = s.mem := rfl
@[simp] theorem orSat_freeCtr (s : State) (b : Bool) : (s.orSat b).freeCtr = s.freeCtr := rfl

/-! ### `State.setCr6` -/

@[simp] theorem setCr6_vrs (s : State) (f : BitVec 4) : (s.setCr6 f).vrs = s.vrs := rfl
@[simp] theorem setCr6_vscr (s : State) (f : BitVec 4) : (s.setCr6 f).vscr = s.vscr := rfl
@[simp] theorem setCr6_vrsave (s : State) (f : BitVec 4) : (s.setCr6 f).vrsave = s.vrsave := rfl
@[simp] theorem setCr6_cr (s : State) (f : BitVec 4) :
    (s.setCr6 f).cr = (s.cr &&& ~~~0xF0#32) ||| (f.setWidth 32 <<< 4) := rfl
@[simp] theorem setCr6_gprs (s : State) (f : BitVec 4) : (s.setCr6 f).gprs = s.gprs := rfl
@[simp] theorem setCr6_ctr (s : State) (f : BitVec 4) : (s.setCr6 f).ctr = s.ctr := rfl
@[simp] theorem setCr6_lr (s : State) (f : BitVec 4) : (s.setCr6 f).lr = s.lr := rfl
@[simp] theorem setCr6_xerCA (s : State) (f : BitVec 4) : (s.setCr6 f).xerCA = s.xerCA := rfl
@[simp] theorem setCr6_pc (s : State) (f : BitVec 4) : (s.setCr6 f).pc = s.pc := rfl
@[simp] theorem setCr6_msr (s : State) (f : BitVec 4) : (s.setCr6 f).msr = s.msr := rfl
@[simp] theorem setCr6_srr0 (s : State) (f : BitVec 4) : (s.setCr6 f).srr0 = s.srr0 := rfl
@[simp] theorem setCr6_srr1 (s : State) (f : BitVec 4) : (s.setCr6 f).srr1 = s.srr1 := rfl
@[simp] theorem setCr6_gsrr0 (s : State) (f : BitVec 4) : (s.setCr6 f).gsrr0 = s.gsrr0 := rfl
@[simp] theorem setCr6_gsrr1 (s : State) (f : BitVec 4) : (s.setCr6 f).gsrr1 = s.gsrr1 := rfl
@[simp] theorem setCr6_esr (s : State) (f : BitVec 4) : (s.setCr6 f).esr = s.esr := rfl
@[simp] theorem setCr6_gesr (s : State) (f : BitVec 4) : (s.setCr6 f).gesr = s.gesr := rfl
@[simp] theorem setCr6_dear (s : State) (f : BitVec 4) : (s.setCr6 f).dear = s.dear := rfl
@[simp] theorem setCr6_ivpr (s : State) (f : BitVec 4) : (s.setCr6 f).ivpr = s.ivpr := rfl
@[simp] theorem setCr6_ivor2 (s : State) (f : BitVec 4) : (s.setCr6 f).ivor2 = s.ivor2 := rfl
@[simp] theorem setCr6_ivor5 (s : State) (f : BitVec 4) : (s.setCr6 f).ivor5 = s.ivor5 := rfl
@[simp] theorem setCr6_ivor6 (s : State) (f : BitVec 4) : (s.setCr6 f).ivor6 = s.ivor6 := rfl
@[simp] theorem setCr6_ivor13 (s : State) (f : BitVec 4) : (s.setCr6 f).ivor13 = s.ivor13 := rfl
@[simp] theorem setCr6_ivor32 (s : State) (f : BitVec 4) : (s.setCr6 f).ivor32 = s.ivor32 := rfl
@[simp] theorem setCr6_ivor33 (s : State) (f : BitVec 4) : (s.setCr6 f).ivor33 = s.ivor33 := rfl
@[simp] theorem setCr6_eplc (s : State) (f : BitVec 4) : (s.setCr6 f).eplc = s.eplc := rfl
@[simp] theorem setCr6_epsc (s : State) (f : BitVec 4) : (s.setCr6 f).epsc = s.epsc := rfl
@[simp] theorem setCr6_pid (s : State) (f : BitVec 4) : (s.setCr6 f).pid = s.pid := rfl
@[simp] theorem setCr6_lpidr (s : State) (f : BitVec 4) : (s.setCr6 f).lpidr = s.lpidr := rfl
@[simp] theorem setCr6_mode64 (s : State) (f : BitVec 4) : (s.setCr6 f).mode64 = s.mode64 := rfl
@[simp] theorem setCr6_cfg (s : State) (f : BitVec 4) : (s.setCr6 f).cfg = s.cfg := rfl
@[simp] theorem setCr6_xlat (s : State) (f : BitVec 4) : (s.setCr6 f).xlat = s.xlat := rfl
@[simp] theorem setCr6_mem (s : State) (f : BitVec 4) : (s.setCr6 f).mem = s.mem := rfl
@[simp] theorem setCr6_freeCtr (s : State) (f : BitVec 4) : (s.setCr6 f).freeCtr = s.freeCtr := rfl

/-! ### `State.drawn` -/

@[simp] theorem drawn_vrs (s : State) (n : Nat) : (s.drawn n).vrs = s.vrs := rfl
@[simp] theorem drawn_vscr (s : State) (n : Nat) : (s.drawn n).vscr = s.vscr := rfl
@[simp] theorem drawn_vrsave (s : State) (n : Nat) : (s.drawn n).vrsave = s.vrsave := rfl
@[simp] theorem drawn_cr (s : State) (n : Nat) : (s.drawn n).cr = s.cr := rfl
@[simp] theorem drawn_gprs (s : State) (n : Nat) : (s.drawn n).gprs = s.gprs := rfl
@[simp] theorem drawn_ctr (s : State) (n : Nat) : (s.drawn n).ctr = s.ctr := rfl
@[simp] theorem drawn_lr (s : State) (n : Nat) : (s.drawn n).lr = s.lr := rfl
@[simp] theorem drawn_xerCA (s : State) (n : Nat) : (s.drawn n).xerCA = s.xerCA := rfl
@[simp] theorem drawn_pc (s : State) (n : Nat) : (s.drawn n).pc = s.pc := rfl
@[simp] theorem drawn_msr (s : State) (n : Nat) : (s.drawn n).msr = s.msr := rfl
@[simp] theorem drawn_srr0 (s : State) (n : Nat) : (s.drawn n).srr0 = s.srr0 := rfl
@[simp] theorem drawn_srr1 (s : State) (n : Nat) : (s.drawn n).srr1 = s.srr1 := rfl
@[simp] theorem drawn_gsrr0 (s : State) (n : Nat) : (s.drawn n).gsrr0 = s.gsrr0 := rfl
@[simp] theorem drawn_gsrr1 (s : State) (n : Nat) : (s.drawn n).gsrr1 = s.gsrr1 := rfl
@[simp] theorem drawn_esr (s : State) (n : Nat) : (s.drawn n).esr = s.esr := rfl
@[simp] theorem drawn_gesr (s : State) (n : Nat) : (s.drawn n).gesr = s.gesr := rfl
@[simp] theorem drawn_dear (s : State) (n : Nat) : (s.drawn n).dear = s.dear := rfl
@[simp] theorem drawn_ivpr (s : State) (n : Nat) : (s.drawn n).ivpr = s.ivpr := rfl
@[simp] theorem drawn_ivor2 (s : State) (n : Nat) : (s.drawn n).ivor2 = s.ivor2 := rfl
@[simp] theorem drawn_ivor5 (s : State) (n : Nat) : (s.drawn n).ivor5 = s.ivor5 := rfl
@[simp] theorem drawn_ivor6 (s : State) (n : Nat) : (s.drawn n).ivor6 = s.ivor6 := rfl
@[simp] theorem drawn_ivor13 (s : State) (n : Nat) : (s.drawn n).ivor13 = s.ivor13 := rfl
@[simp] theorem drawn_ivor32 (s : State) (n : Nat) : (s.drawn n).ivor32 = s.ivor32 := rfl
@[simp] theorem drawn_ivor33 (s : State) (n : Nat) : (s.drawn n).ivor33 = s.ivor33 := rfl
@[simp] theorem drawn_eplc (s : State) (n : Nat) : (s.drawn n).eplc = s.eplc := rfl
@[simp] theorem drawn_epsc (s : State) (n : Nat) : (s.drawn n).epsc = s.epsc := rfl
@[simp] theorem drawn_pid (s : State) (n : Nat) : (s.drawn n).pid = s.pid := rfl
@[simp] theorem drawn_lpidr (s : State) (n : Nat) : (s.drawn n).lpidr = s.lpidr := rfl
@[simp] theorem drawn_mode64 (s : State) (n : Nat) : (s.drawn n).mode64 = s.mode64 := rfl
@[simp] theorem drawn_cfg (s : State) (n : Nat) : (s.drawn n).cfg = s.cfg := rfl
@[simp] theorem drawn_xlat (s : State) (n : Nat) : (s.drawn n).xlat = s.xlat := rfl
@[simp] theorem drawn_mem (s : State) (n : Nat) : (s.drawn n).mem = s.mem := rfl
@[simp] theorem drawn_freeCtr (s : State) (n : Nat) : (s.drawn n).freeCtr = s.freeCtr + n := rfl

/-! ### `State.writeByte` -/

@[simp] theorem writeByte_vrs (s : State) (a : DWord) (v : Byte) : (s.writeByte a v).vrs = s.vrs := rfl
@[simp] theorem writeByte_vscr (s : State) (a : DWord) (v : Byte) : (s.writeByte a v).vscr = s.vscr := rfl
@[simp] theorem writeByte_vrsave (s : State) (a : DWord) (v : Byte) : (s.writeByte a v).vrsave = s.vrsave := rfl
@[simp] theorem writeByte_cr (s : State) (a : DWord) (v : Byte) : (s.writeByte a v).cr = s.cr := rfl
@[simp] theorem writeByte_gprs (s : State) (a : DWord) (v : Byte) : (s.writeByte a v).gprs = s.gprs := rfl
@[simp] theorem writeByte_ctr (s : State) (a : DWord) (v : Byte) : (s.writeByte a v).ctr = s.ctr := rfl
@[simp] theorem writeByte_lr (s : State) (a : DWord) (v : Byte) : (s.writeByte a v).lr = s.lr := rfl
@[simp] theorem writeByte_xerCA (s : State) (a : DWord) (v : Byte) : (s.writeByte a v).xerCA = s.xerCA := rfl
@[simp] theorem writeByte_pc (s : State) (a : DWord) (v : Byte) : (s.writeByte a v).pc = s.pc := rfl
@[simp] theorem writeByte_msr (s : State) (a : DWord) (v : Byte) : (s.writeByte a v).msr = s.msr := rfl
@[simp] theorem writeByte_srr0 (s : State) (a : DWord) (v : Byte) : (s.writeByte a v).srr0 = s.srr0 := rfl
@[simp] theorem writeByte_srr1 (s : State) (a : DWord) (v : Byte) : (s.writeByte a v).srr1 = s.srr1 := rfl
@[simp] theorem writeByte_gsrr0 (s : State) (a : DWord) (v : Byte) : (s.writeByte a v).gsrr0 = s.gsrr0 := rfl
@[simp] theorem writeByte_gsrr1 (s : State) (a : DWord) (v : Byte) : (s.writeByte a v).gsrr1 = s.gsrr1 := rfl
@[simp] theorem writeByte_esr (s : State) (a : DWord) (v : Byte) : (s.writeByte a v).esr = s.esr := rfl
@[simp] theorem writeByte_gesr (s : State) (a : DWord) (v : Byte) : (s.writeByte a v).gesr = s.gesr := rfl
@[simp] theorem writeByte_dear (s : State) (a : DWord) (v : Byte) : (s.writeByte a v).dear = s.dear := rfl
@[simp] theorem writeByte_ivpr (s : State) (a : DWord) (v : Byte) : (s.writeByte a v).ivpr = s.ivpr := rfl
@[simp] theorem writeByte_ivor2 (s : State) (a : DWord) (v : Byte) : (s.writeByte a v).ivor2 = s.ivor2 := rfl
@[simp] theorem writeByte_ivor5 (s : State) (a : DWord) (v : Byte) : (s.writeByte a v).ivor5 = s.ivor5 := rfl
@[simp] theorem writeByte_ivor6 (s : State) (a : DWord) (v : Byte) : (s.writeByte a v).ivor6 = s.ivor6 := rfl
@[simp] theorem writeByte_ivor13 (s : State) (a : DWord) (v : Byte) : (s.writeByte a v).ivor13 = s.ivor13 := rfl
@[simp] theorem writeByte_ivor32 (s : State) (a : DWord) (v : Byte) : (s.writeByte a v).ivor32 = s.ivor32 := rfl
@[simp] theorem writeByte_ivor33 (s : State) (a : DWord) (v : Byte) : (s.writeByte a v).ivor33 = s.ivor33 := rfl
@[simp] theorem writeByte_eplc (s : State) (a : DWord) (v : Byte) : (s.writeByte a v).eplc = s.eplc := rfl
@[simp] theorem writeByte_epsc (s : State) (a : DWord) (v : Byte) : (s.writeByte a v).epsc = s.epsc := rfl
@[simp] theorem writeByte_pid (s : State) (a : DWord) (v : Byte) : (s.writeByte a v).pid = s.pid := rfl
@[simp] theorem writeByte_lpidr (s : State) (a : DWord) (v : Byte) : (s.writeByte a v).lpidr = s.lpidr := rfl
@[simp] theorem writeByte_mode64 (s : State) (a : DWord) (v : Byte) : (s.writeByte a v).mode64 = s.mode64 := rfl
@[simp] theorem writeByte_cfg (s : State) (a : DWord) (v : Byte) : (s.writeByte a v).cfg = s.cfg := rfl
@[simp] theorem writeByte_xlat (s : State) (a : DWord) (v : Byte) : (s.writeByte a v).xlat = s.xlat := rfl
@[simp] theorem writeByte_mem (s : State) (a : DWord) (v : Byte) :
    (s.writeByte a v).mem = memWrite s.mem a.toNat v := rfl
@[simp] theorem writeByte_freeCtr (s : State) (a : DWord) (v : Byte) : (s.writeByte a v).freeCtr = s.freeCtr := rfl

/-! ### `State.returnFromInterrupt` -/

@[simp] theorem returnFromInterrupt_vrs (s : State) : (s.returnFromInterrupt).vrs = s.vrs := rfl
@[simp] theorem returnFromInterrupt_vscr (s : State) : (s.returnFromInterrupt).vscr = s.vscr := rfl
@[simp] theorem returnFromInterrupt_vrsave (s : State) : (s.returnFromInterrupt).vrsave = s.vrsave := rfl
@[simp] theorem returnFromInterrupt_cr (s : State) : (s.returnFromInterrupt).cr = s.cr := rfl
@[simp] theorem returnFromInterrupt_gprs (s : State) : (s.returnFromInterrupt).gprs = s.gprs := rfl
@[simp] theorem returnFromInterrupt_ctr (s : State) : (s.returnFromInterrupt).ctr = s.ctr := rfl
@[simp] theorem returnFromInterrupt_lr (s : State) : (s.returnFromInterrupt).lr = s.lr := rfl
@[simp] theorem returnFromInterrupt_xerCA (s : State) : (s.returnFromInterrupt).xerCA = s.xerCA := rfl
@[simp] theorem returnFromInterrupt_pc (s : State) : (s.returnFromInterrupt).pc = s.modeAddr (s.srr0 &&& ~~~3#64) := rfl
@[simp] theorem returnFromInterrupt_msr (s : State) : (s.returnFromInterrupt).msr = s.srr1 := rfl
@[simp] theorem returnFromInterrupt_srr0 (s : State) : (s.returnFromInterrupt).srr0 = s.srr0 := rfl
@[simp] theorem returnFromInterrupt_srr1 (s : State) : (s.returnFromInterrupt).srr1 = s.srr1 := rfl
@[simp] theorem returnFromInterrupt_gsrr0 (s : State) : (s.returnFromInterrupt).gsrr0 = s.gsrr0 := rfl
@[simp] theorem returnFromInterrupt_gsrr1 (s : State) : (s.returnFromInterrupt).gsrr1 = s.gsrr1 := rfl
@[simp] theorem returnFromInterrupt_esr (s : State) : (s.returnFromInterrupt).esr = s.esr := rfl
@[simp] theorem returnFromInterrupt_gesr (s : State) : (s.returnFromInterrupt).gesr = s.gesr := rfl
@[simp] theorem returnFromInterrupt_dear (s : State) : (s.returnFromInterrupt).dear = s.dear := rfl
@[simp] theorem returnFromInterrupt_ivpr (s : State) : (s.returnFromInterrupt).ivpr = s.ivpr := rfl
@[simp] theorem returnFromInterrupt_ivor2 (s : State) : (s.returnFromInterrupt).ivor2 = s.ivor2 := rfl
@[simp] theorem returnFromInterrupt_ivor5 (s : State) : (s.returnFromInterrupt).ivor5 = s.ivor5 := rfl
@[simp] theorem returnFromInterrupt_ivor6 (s : State) : (s.returnFromInterrupt).ivor6 = s.ivor6 := rfl
@[simp] theorem returnFromInterrupt_ivor13 (s : State) : (s.returnFromInterrupt).ivor13 = s.ivor13 := rfl
@[simp] theorem returnFromInterrupt_ivor32 (s : State) : (s.returnFromInterrupt).ivor32 = s.ivor32 := rfl
@[simp] theorem returnFromInterrupt_ivor33 (s : State) : (s.returnFromInterrupt).ivor33 = s.ivor33 := rfl
@[simp] theorem returnFromInterrupt_eplc (s : State) : (s.returnFromInterrupt).eplc = s.eplc := rfl
@[simp] theorem returnFromInterrupt_epsc (s : State) : (s.returnFromInterrupt).epsc = s.epsc := rfl
@[simp] theorem returnFromInterrupt_pid (s : State) : (s.returnFromInterrupt).pid = s.pid := rfl
@[simp] theorem returnFromInterrupt_lpidr (s : State) : (s.returnFromInterrupt).lpidr = s.lpidr := rfl
@[simp] theorem returnFromInterrupt_mode64 (s : State) : (s.returnFromInterrupt).mode64 = s.mode64 := rfl
@[simp] theorem returnFromInterrupt_cfg (s : State) : (s.returnFromInterrupt).cfg = s.cfg := rfl
@[simp] theorem returnFromInterrupt_xlat (s : State) : (s.returnFromInterrupt).xlat = s.xlat := rfl
@[simp] theorem returnFromInterrupt_mem (s : State) : (s.returnFromInterrupt).mem = s.mem := rfl
@[simp] theorem returnFromInterrupt_freeCtr (s : State) : (s.returnFromInterrupt).freeCtr = s.freeCtr := rfl

/-! ### `State.takeInterrupt` -/

@[simp] theorem takeInterrupt_vrs (s : State) (k : Interrupt) (syn : Option Word) (addr : Option DWord) (g : Bool) :
    (s.takeInterrupt k syn addr g).vrs = s.vrs := rfl
@[simp] theorem takeInterrupt_vscr (s : State) (k : Interrupt) (syn : Option Word) (addr : Option DWord) (g : Bool) :
    (s.takeInterrupt k syn addr g).vscr = s.vscr := rfl
@[simp] theorem takeInterrupt_vrsave (s : State) (k : Interrupt) (syn : Option Word) (addr : Option DWord) (g : Bool) :
    (s.takeInterrupt k syn addr g).vrsave = s.vrsave := rfl
@[simp] theorem takeInterrupt_cr (s : State) (k : Interrupt) (syn : Option Word) (addr : Option DWord) (g : Bool) :
    (s.takeInterrupt k syn addr g).cr = s.cr := rfl
@[simp] theorem takeInterrupt_gprs (s : State) (k : Interrupt) (syn : Option Word) (addr : Option DWord) (g : Bool) :
    (s.takeInterrupt k syn addr g).gprs = s.gprs := rfl
@[simp] theorem takeInterrupt_ctr (s : State) (k : Interrupt) (syn : Option Word) (addr : Option DWord) (g : Bool) :
    (s.takeInterrupt k syn addr g).ctr = s.ctr := rfl
@[simp] theorem takeInterrupt_lr (s : State) (k : Interrupt) (syn : Option Word) (addr : Option DWord) (g : Bool) :
    (s.takeInterrupt k syn addr g).lr = s.lr := rfl
@[simp] theorem takeInterrupt_xerCA (s : State) (k : Interrupt) (syn : Option Word) (addr : Option DWord) (g : Bool) :
    (s.takeInterrupt k syn addr g).xerCA = s.xerCA := rfl
@[simp] theorem takeInterrupt_pc (s : State) (k : Interrupt) (syn : Option Word) (addr : Option DWord) (g : Bool) :
    (s.takeInterrupt k syn addr g).pc = s.modeAddr (s.ivpr ++ s.ivor k) := rfl
@[simp] theorem takeInterrupt_msr (s : State) (k : Interrupt) (syn : Option Word) (addr : Option DWord) (g : Bool) :
    (s.takeInterrupt k syn addr g).msr = s.msr &&& ~~~msrEntryMask := rfl
@[simp] theorem takeInterrupt_srr0 (s : State) (k : Interrupt) (syn : Option Word) (addr : Option DWord) (g : Bool) :
    (s.takeInterrupt k syn addr g).srr0 = if g then s.srr0 else s.pc := rfl
@[simp] theorem takeInterrupt_srr1 (s : State) (k : Interrupt) (syn : Option Word) (addr : Option DWord) (g : Bool) :
    (s.takeInterrupt k syn addr g).srr1 = if g then s.srr1 else s.msr := rfl
@[simp] theorem takeInterrupt_gsrr0 (s : State) (k : Interrupt) (syn : Option Word) (addr : Option DWord) (g : Bool) :
    (s.takeInterrupt k syn addr g).gsrr0 = if g then s.pc else s.gsrr0 := rfl
@[simp] theorem takeInterrupt_gsrr1 (s : State) (k : Interrupt) (syn : Option Word) (addr : Option DWord) (g : Bool) :
    (s.takeInterrupt k syn addr g).gsrr1 = if g then s.msr else s.gsrr1 := rfl
@[simp] theorem takeInterrupt_esr (s : State) (k : Interrupt) (syn : Option Word) (addr : Option DWord) (g : Bool) :
    (s.takeInterrupt k syn addr g).esr = if g then s.esr else syn.getD s.esr := rfl
@[simp] theorem takeInterrupt_gesr (s : State) (k : Interrupt) (syn : Option Word) (addr : Option DWord) (g : Bool) :
    (s.takeInterrupt k syn addr g).gesr = if g then syn.getD s.gesr else s.gesr := rfl
@[simp] theorem takeInterrupt_dear (s : State) (k : Interrupt) (syn : Option Word) (addr : Option DWord) (g : Bool) :
    (s.takeInterrupt k syn addr g).dear = addr.getD s.dear := rfl
@[simp] theorem takeInterrupt_ivpr (s : State) (k : Interrupt) (syn : Option Word) (addr : Option DWord) (g : Bool) :
    (s.takeInterrupt k syn addr g).ivpr = s.ivpr := rfl
@[simp] theorem takeInterrupt_ivor2 (s : State) (k : Interrupt) (syn : Option Word) (addr : Option DWord) (g : Bool) :
    (s.takeInterrupt k syn addr g).ivor2 = s.ivor2 := rfl
@[simp] theorem takeInterrupt_ivor5 (s : State) (k : Interrupt) (syn : Option Word) (addr : Option DWord) (g : Bool) :
    (s.takeInterrupt k syn addr g).ivor5 = s.ivor5 := rfl
@[simp] theorem takeInterrupt_ivor6 (s : State) (k : Interrupt) (syn : Option Word) (addr : Option DWord) (g : Bool) :
    (s.takeInterrupt k syn addr g).ivor6 = s.ivor6 := rfl
@[simp] theorem takeInterrupt_ivor13 (s : State) (k : Interrupt) (syn : Option Word) (addr : Option DWord) (g : Bool) :
    (s.takeInterrupt k syn addr g).ivor13 = s.ivor13 := rfl
@[simp] theorem takeInterrupt_ivor32 (s : State) (k : Interrupt) (syn : Option Word) (addr : Option DWord) (g : Bool) :
    (s.takeInterrupt k syn addr g).ivor32 = s.ivor32 := rfl
@[simp] theorem takeInterrupt_ivor33 (s : State) (k : Interrupt) (syn : Option Word) (addr : Option DWord) (g : Bool) :
    (s.takeInterrupt k syn addr g).ivor33 = s.ivor33 := rfl
@[simp] theorem takeInterrupt_eplc (s : State) (k : Interrupt) (syn : Option Word) (addr : Option DWord) (g : Bool) :
    (s.takeInterrupt k syn addr g).eplc = s.eplc := rfl
@[simp] theorem takeInterrupt_epsc (s : State) (k : Interrupt) (syn : Option Word) (addr : Option DWord) (g : Bool) :
    (s.takeInterrupt k syn addr g).epsc = s.epsc := rfl
@[simp] theorem takeInterrupt_pid (s : State) (k : Interrupt) (syn : Option Word) (addr : Option DWord) (g : Bool) :
    (s.takeInterrupt k syn addr g).pid = s.pid := rfl
@[simp] theorem takeInterrupt_lpidr (s : State) (k : Interrupt) (syn : Option Word) (addr : Option DWord) (g : Bool) :
    (s.takeInterrupt k syn addr g).lpidr = s.lpidr := rfl
@[simp] theorem takeInterrupt_mode64 (s : State) (k : Interrupt) (syn : Option Word) (addr : Option DWord) (g : Bool) :
    (s.takeInterrupt k syn addr g).mode64 = s.mode64 := rfl
@[simp] theorem takeInterrupt_cfg (s : State) (k : Interrupt) (syn : Option Word) (addr : Option DWord) (g : Bool) :
    (s.takeInterrupt k syn addr g).cfg = s.cfg := rfl
@[simp] theorem takeInterrupt_xlat (s : State) (k : Interrupt) (syn : Option Word) (addr : Option DWord) (g : Bool) :
    (s.takeInterrupt k syn addr g).xlat = s.xlat := rfl
@[simp] theorem takeInterrupt_mem (s : State) (k : Interrupt) (syn : Option Word) (addr : Option DWord) (g : Bool) :
    (s.takeInterrupt k syn addr g).mem = s.mem := rfl
@[simp] theorem takeInterrupt_freeCtr (s : State) (k : Interrupt) (syn : Option Word) (addr : Option DWord) (g : Bool) :
    (s.takeInterrupt k syn addr g).freeCtr = s.freeCtr := rfl

/-! ### `State.writeBytes`, which changes memory alone -/

@[simp] theorem writeBytes_vrs (s : State) (a : DWord) (n : Nat) (g : Nat → Byte) :
    (s.writeBytes a n g).vrs = s.vrs := by
  induction n with
  | zero => rfl
  | succ n ih => simpa [State.writeBytes] using ih
@[simp] theorem writeBytes_vscr (s : State) (a : DWord) (n : Nat) (g : Nat → Byte) :
    (s.writeBytes a n g).vscr = s.vscr := by
  induction n with
  | zero => rfl
  | succ n ih => simpa [State.writeBytes] using ih
@[simp] theorem writeBytes_vrsave (s : State) (a : DWord) (n : Nat) (g : Nat → Byte) :
    (s.writeBytes a n g).vrsave = s.vrsave := by
  induction n with
  | zero => rfl
  | succ n ih => simpa [State.writeBytes] using ih
@[simp] theorem writeBytes_cr (s : State) (a : DWord) (n : Nat) (g : Nat → Byte) :
    (s.writeBytes a n g).cr = s.cr := by
  induction n with
  | zero => rfl
  | succ n ih => simpa [State.writeBytes] using ih
@[simp] theorem writeBytes_gprs (s : State) (a : DWord) (n : Nat) (g : Nat → Byte) :
    (s.writeBytes a n g).gprs = s.gprs := by
  induction n with
  | zero => rfl
  | succ n ih => simpa [State.writeBytes] using ih
@[simp] theorem writeBytes_ctr (s : State) (a : DWord) (n : Nat) (g : Nat → Byte) :
    (s.writeBytes a n g).ctr = s.ctr := by
  induction n with
  | zero => rfl
  | succ n ih => simpa [State.writeBytes] using ih
@[simp] theorem writeBytes_lr (s : State) (a : DWord) (n : Nat) (g : Nat → Byte) :
    (s.writeBytes a n g).lr = s.lr := by
  induction n with
  | zero => rfl
  | succ n ih => simpa [State.writeBytes] using ih
@[simp] theorem writeBytes_xerCA (s : State) (a : DWord) (n : Nat) (g : Nat → Byte) :
    (s.writeBytes a n g).xerCA = s.xerCA := by
  induction n with
  | zero => rfl
  | succ n ih => simpa [State.writeBytes] using ih
@[simp] theorem writeBytes_pc (s : State) (a : DWord) (n : Nat) (g : Nat → Byte) :
    (s.writeBytes a n g).pc = s.pc := by
  induction n with
  | zero => rfl
  | succ n ih => simpa [State.writeBytes] using ih
@[simp] theorem writeBytes_msr (s : State) (a : DWord) (n : Nat) (g : Nat → Byte) :
    (s.writeBytes a n g).msr = s.msr := by
  induction n with
  | zero => rfl
  | succ n ih => simpa [State.writeBytes] using ih
@[simp] theorem writeBytes_srr0 (s : State) (a : DWord) (n : Nat) (g : Nat → Byte) :
    (s.writeBytes a n g).srr0 = s.srr0 := by
  induction n with
  | zero => rfl
  | succ n ih => simpa [State.writeBytes] using ih
@[simp] theorem writeBytes_srr1 (s : State) (a : DWord) (n : Nat) (g : Nat → Byte) :
    (s.writeBytes a n g).srr1 = s.srr1 := by
  induction n with
  | zero => rfl
  | succ n ih => simpa [State.writeBytes] using ih
@[simp] theorem writeBytes_gsrr0 (s : State) (a : DWord) (n : Nat) (g : Nat → Byte) :
    (s.writeBytes a n g).gsrr0 = s.gsrr0 := by
  induction n with
  | zero => rfl
  | succ n ih => simpa [State.writeBytes] using ih
@[simp] theorem writeBytes_gsrr1 (s : State) (a : DWord) (n : Nat) (g : Nat → Byte) :
    (s.writeBytes a n g).gsrr1 = s.gsrr1 := by
  induction n with
  | zero => rfl
  | succ n ih => simpa [State.writeBytes] using ih
@[simp] theorem writeBytes_esr (s : State) (a : DWord) (n : Nat) (g : Nat → Byte) :
    (s.writeBytes a n g).esr = s.esr := by
  induction n with
  | zero => rfl
  | succ n ih => simpa [State.writeBytes] using ih
@[simp] theorem writeBytes_gesr (s : State) (a : DWord) (n : Nat) (g : Nat → Byte) :
    (s.writeBytes a n g).gesr = s.gesr := by
  induction n with
  | zero => rfl
  | succ n ih => simpa [State.writeBytes] using ih
@[simp] theorem writeBytes_dear (s : State) (a : DWord) (n : Nat) (g : Nat → Byte) :
    (s.writeBytes a n g).dear = s.dear := by
  induction n with
  | zero => rfl
  | succ n ih => simpa [State.writeBytes] using ih
@[simp] theorem writeBytes_ivpr (s : State) (a : DWord) (n : Nat) (g : Nat → Byte) :
    (s.writeBytes a n g).ivpr = s.ivpr := by
  induction n with
  | zero => rfl
  | succ n ih => simpa [State.writeBytes] using ih
@[simp] theorem writeBytes_ivor2 (s : State) (a : DWord) (n : Nat) (g : Nat → Byte) :
    (s.writeBytes a n g).ivor2 = s.ivor2 := by
  induction n with
  | zero => rfl
  | succ n ih => simpa [State.writeBytes] using ih
@[simp] theorem writeBytes_ivor5 (s : State) (a : DWord) (n : Nat) (g : Nat → Byte) :
    (s.writeBytes a n g).ivor5 = s.ivor5 := by
  induction n with
  | zero => rfl
  | succ n ih => simpa [State.writeBytes] using ih
@[simp] theorem writeBytes_ivor6 (s : State) (a : DWord) (n : Nat) (g : Nat → Byte) :
    (s.writeBytes a n g).ivor6 = s.ivor6 := by
  induction n with
  | zero => rfl
  | succ n ih => simpa [State.writeBytes] using ih
@[simp] theorem writeBytes_ivor13 (s : State) (a : DWord) (n : Nat) (g : Nat → Byte) :
    (s.writeBytes a n g).ivor13 = s.ivor13 := by
  induction n with
  | zero => rfl
  | succ n ih => simpa [State.writeBytes] using ih
@[simp] theorem writeBytes_ivor32 (s : State) (a : DWord) (n : Nat) (g : Nat → Byte) :
    (s.writeBytes a n g).ivor32 = s.ivor32 := by
  induction n with
  | zero => rfl
  | succ n ih => simpa [State.writeBytes] using ih
@[simp] theorem writeBytes_ivor33 (s : State) (a : DWord) (n : Nat) (g : Nat → Byte) :
    (s.writeBytes a n g).ivor33 = s.ivor33 := by
  induction n with
  | zero => rfl
  | succ n ih => simpa [State.writeBytes] using ih
@[simp] theorem writeBytes_eplc (s : State) (a : DWord) (n : Nat) (g : Nat → Byte) :
    (s.writeBytes a n g).eplc = s.eplc := by
  induction n with
  | zero => rfl
  | succ n ih => simpa [State.writeBytes] using ih
@[simp] theorem writeBytes_epsc (s : State) (a : DWord) (n : Nat) (g : Nat → Byte) :
    (s.writeBytes a n g).epsc = s.epsc := by
  induction n with
  | zero => rfl
  | succ n ih => simpa [State.writeBytes] using ih
@[simp] theorem writeBytes_pid (s : State) (a : DWord) (n : Nat) (g : Nat → Byte) :
    (s.writeBytes a n g).pid = s.pid := by
  induction n with
  | zero => rfl
  | succ n ih => simpa [State.writeBytes] using ih
@[simp] theorem writeBytes_lpidr (s : State) (a : DWord) (n : Nat) (g : Nat → Byte) :
    (s.writeBytes a n g).lpidr = s.lpidr := by
  induction n with
  | zero => rfl
  | succ n ih => simpa [State.writeBytes] using ih
@[simp] theorem writeBytes_mode64 (s : State) (a : DWord) (n : Nat) (g : Nat → Byte) :
    (s.writeBytes a n g).mode64 = s.mode64 := by
  induction n with
  | zero => rfl
  | succ n ih => simpa [State.writeBytes] using ih
@[simp] theorem writeBytes_cfg (s : State) (a : DWord) (n : Nat) (g : Nat → Byte) :
    (s.writeBytes a n g).cfg = s.cfg := by
  induction n with
  | zero => rfl
  | succ n ih => simpa [State.writeBytes] using ih
@[simp] theorem writeBytes_xlat (s : State) (a : DWord) (n : Nat) (g : Nat → Byte) :
    (s.writeBytes a n g).xlat = s.xlat := by
  induction n with
  | zero => rfl
  | succ n ih => simpa [State.writeBytes] using ih
@[simp] theorem writeBytes_freeCtr (s : State) (a : DWord) (n : Nat) (g : Nat → Byte) :
    (s.writeBytes a n g).freeCtr = s.freeCtr := by
  induction n with
  | zero => rfl
  | succ n ih => simpa [State.writeBytes] using ih

end Sys2Proof.Machine
end

