-- ==== Sys2Proof/Laws/Operands.lean ====
section
/-! SUPPORT. Laws of elements, registers and addresses: what `build` and the element writes give back, what a register reads
after a write, and the low bits and widths of an address. -/

namespace Sys2Proof.Machine

open Sys2Proof

/-! ### Elements -/

theorem build_getLsbD (n : Nat) (hn : 0 < n) (k : Nat) (f : Nat → BitVec n) (j : Nat) (hk : n * k ≤ 128) (hj : j < n * k) :
    (build n k f).getLsbD j = (f (k - 1 - j / n)).getLsbD (j % n) := by
  induction k generalizing j with
  | zero => simp at hj
  | succ k ih =>
    have hk' : n * k + n ≤ 128 := by rw [Nat.mul_succ] at hk; exact hk
    rw [Nat.mul_succ] at hj
    simp only [build, BitVec.getLsbD_or, BitVec.getLsbD_shiftLeft, BitVec.getLsbD_setWidth]
    by_cases h : j < n
    · have h1 : j / n = 0 := Nat.div_eq_of_lt h
      have h2 : j % n = j := Nat.mod_eq_of_lt h
      simp [h, h1, h2]; omega
    · have h1 : j / n = (j - n) / n + 1 := by
        rw [Nat.div_eq_sub_div hn (by omega)]
      have h2 : j % n = (j - n) % n := Nat.mod_eq_sub_mod (by omega)
      have h3 : (f k).getLsbD j = false := BitVec.getLsbD_of_ge _ _ (by omega)
      have h4 : j < 128 := by omega
      rw [ih (j - n) (by omega) (by omega), h1, h2, h3]
      have h5 : k - 1 - (j - n) / n = k + 1 - 1 - ((j - n) / n + 1) := by omega
      simp [h, h4, h5]

/-- Element `i` of a vector built from `f` is `f i`. -/
theorem elem_build (n : Nat) (hn : 0 < n) (k : Nat) (f : Nat → BitVec n) (i : Nat) (hk : n * k = 128) (hi : i < k) :
    elem n (build n k f) i = f i := by
  apply BitVec.eq_of_getLsbD_eq
  intro j hj
  have hik : n * (i + 1) ≤ n * k := Nat.mul_le_mul_left n (by omega)
  have hle : n * (i + 1) = n * i + n := Nat.mul_succ n i
  have e1 : 128 - n * (i + 1) = n * (k - 1 - i) := by
    have : n * k = n * (k - 1 - i) + n * (i + 1) := by rw [← Nat.mul_add]; congr 1; omega
    omega
  rw [elem, BitVec.getLsbD_extractLsb', e1]
  rw [build_getLsbD n hn k f _ (by omega) (by
    have : n * (k - 1 - i) + n ≤ n * k := by rw [← Nat.mul_succ]; exact Nat.mul_le_mul_left n (by omega)
    omega)]
  have e2 : (n * (k - 1 - i) + j) / n = k - 1 - i := by
    rw [Nat.mul_add_div hn, Nat.div_eq_of_lt hj]; omega
  have e3 : (n * (k - 1 - i) + j) % n = j := by rw [Nat.mul_add_mod, Nat.mod_eq_of_lt hj]
  have e4 : k - 1 - (k - 1 - i) = i := by omega
  simp [e2, e3, e4, hj]

theorem byte_ofBytes (f : Nat → Byte) (i : Nat) (h : i < 16) : byte (ofBytes f) i = f i :=
  elem_build 8 (by omega) 16 f i (by omega) h

theorem half_ofHalves (f : Nat → Half) (i : Nat) (h : i < 8) : half (ofHalves f) i = f i :=
  elem_build 16 (by omega) 8 f i (by omega) h

theorem word_ofWords (f : Nat → Word) (i : Nat) (h : i < 4) : word (ofWords f) i = f i :=
  elem_build 32 (by omega) 4 f i (by omega) h

/-- An element of a vector built element by element from two others. -/
theorem byte_mapBytes (f : Byte → Byte → Byte) (a b : Vec) (i : Nat) (h : i < 16) :
    byte (mapBytes f a b) i = f (byte a i) (byte b i) := byte_ofBytes _ i h

theorem half_mapHalves (f : Half → Half → Half) (a b : Vec) (i : Nat) (h : i < 8) :
    half (mapHalves f a b) i = f (half a i) (half b i) := half_ofHalves _ i h

theorem word_mapWords (f : Word → Word → Word) (a b : Vec) (i : Nat) (h : i < 4) :
    word (mapWords f a b) i = f (word a i) (word b i) := word_ofWords _ i h

/-- Two vectors are equal when their `k` elements of width `n` are. -/
theorem vec_ext (n : Nat) (hn : 0 < n) (k : Nat) (hk : n * k = 128) (a b : Vec)
    (h : ∀ i < k, elem n a i = elem n b i) : a = b := by
  apply BitVec.eq_of_getLsbD_eq
  intro j hj
  have hq : j / n < k := (Nat.div_lt_iff_lt_mul hn).2 (by rw [Nat.mul_comm]; omega)
  have hlt : k - 1 - j / n < k := by generalize j / n = q at hq; omega
  have h1 := congrArg (fun x => x.getLsbD (j % n)) (h (k - 1 - j / n) hlt)
  have e1 : 128 - n * (k - 1 - j / n + 1) = n * (j / n) := by
    have : n * k = n * (k - 1 - j / n + 1) + n * (j / n) := by
      rw [← Nat.mul_add]; congr 1; generalize j / n = q at hq; omega
    omega
  have e2 : n * (j / n) + j % n = j := Nat.div_add_mod j n
  simpa [elem, BitVec.getLsbD_extractLsb', e1, e2, Nat.mod_lt j hn] using h1

theorem byte_setByte (v : Vec) (i j : Nat) (x : Byte) (h : j < 16) :
    byte (setByte v i x) j = if j = i then x else byte v j := byte_ofBytes _ j h

theorem half_setHalf (v : Vec) (i j : Nat) (x : Half) (h : j < 8) :
    half (setHalf v i x) j = if j = i then x else half v j := half_ofHalves _ j h

theorem word_setWord (v : Vec) (i j : Nat) (x : Word) (h : j < 4) :
    word (setWord v i x) j = if j = i then x else word v j := word_ofWords _ j h

/-- Byte `j` is the byte `j % (n / 8)` of the element of width `n` that holds it: for half-words. -/
theorem byte_eq_half (v : Vec) (j : Nat) (h : j < 16) :
    byte v j = (half v (j / 2)).extractLsb' (8 - 8 * (j % 2)) 8 := by
  apply BitVec.eq_of_getLsbD_eq
  intro b hb
  have e : 128 - 8 * (j + 1) = 128 - 16 * (j / 2 + 1) + (8 - 8 * (j % 2)) := by omega
  simp only [byte, half, elem, BitVec.getLsbD_extractLsb', e]
  have : 8 - 8 * (j % 2) + b < 16 := by omega
  simp [hb, this, Nat.add_assoc]

/-- The same for words. -/
theorem byte_eq_word (v : Vec) (j : Nat) (h : j < 16) :
    byte v j = (word v (j / 4)).extractLsb' (24 - 8 * (j % 4)) 8 := by
  apply BitVec.eq_of_getLsbD_eq
  intro b hb
  have e : 128 - 8 * (j + 1) = 128 - 32 * (j / 4 + 1) + (24 - 8 * (j % 4)) := by omega
  simp only [byte, word, elem, BitVec.getLsbD_extractLsb', e]
  have : 24 - 8 * (j % 4) + b < 32 := by omega
  simp [hb, this, Nat.add_assoc]

/-! ### Registers -/

@[simp] theorem vr_setVr_same (s : State) (r : Reg) (v : Vec) : (s.setVr r v).vr r = v := by
  simp [State.vr, State.setVr]

theorem vr_setVr (s : State) (r q : Reg) (v : Vec) : (s.setVr r v).vr q = if q = r then v else s.vr q := by
  by_cases h : q = r
  · subst h; simp
  · have : r.toNat ≠ q.toNat := fun e => h (BitVec.eq_of_toNat_eq e.symm)
    simp [State.vr, State.setVr, h, Vector.getElem_set_ne, this]

@[simp] theorem gpr_setGpr_same (s : State) (r : Reg) (v : DWord) : (s.setGpr r v).gpr r = Cfg.toXlen s.cfg v := by
  simp [State.gpr, State.setGpr]

theorem gpr_setGpr (s : State) (r q : Reg) (v : DWord) :
    (s.setGpr r v).gpr q = if q = r then Cfg.toXlen s.cfg v else s.gpr q := by
  by_cases h : q = r
  · subst h; simp
  · have : r.toNat ≠ q.toNat := fun e => h (BitVec.eq_of_toNat_eq e.symm)
    simp [State.gpr, State.setGpr, h, Vector.getElem_set_ne, this]

/-- A vector register reads the same in two states with the same vector registers. -/
theorem vr_congr {s t : State} (h : t.vrs = s.vrs) (r : Reg) : t.vr r = s.vr r := by simp only [State.vr, h]

/-- A general register reads the same in two states with the same general registers. -/
theorem gpr_congr {s t : State} (h : t.gprs = s.gprs) (r : Reg) : t.gpr r = s.gpr r := by simp only [State.gpr, h]

/-! ### Addresses -/

/-- Cutting an address to the computation mode keeps its low 32 bits. -/
theorem modeAddr_setWidth (s : State) (a : DWord) (n : Nat) (hn : n ≤ 32) :
    (s.modeAddr a).setWidth n = a.setWidth n := by
  unfold State.modeAddr
  split
  · rfl
  · apply BitVec.eq_of_getLsbD_eq
    intro i hi
    simp [BitVec.getLsbD_setWidth, hi]; omega

theorem modeAddr_toNat (s : State) (a : DWord) :
    (s.modeAddr a).toNat = a.toNat % (if s.is64 then 2 ^ 64 else 2 ^ 32) := by
  unfold State.modeAddr
  split
  · exact (Nat.mod_eq_of_lt a.isLt).symm
  · simp only [BitVec.toNat_setWidth]; omega

theorem modeAddr_narrow (s : State) (a : DWord) (h : s.is64 = false) : (s.modeAddr a).extractLsb' 32 32 = 0#32 := by
  apply BitVec.eq_of_toNat_eq
  have := modeAddr_toNat s a
  simp only [h, Bool.false_eq_true, if_false] at this
  simp only [BitVec.extractLsb'_toNat, this, Nat.shiftRight_eq_div_pow, BitVec.toNat_ofNat]
  omega

theorem toXlen_toNat (c : Cfg) (v : DWord) :
    (Cfg.toXlen c v).toNat = v.toNat % (if c.impl64 then 2 ^ 64 else 2 ^ 32) := by
  unfold Cfg.toXlen
  split
  · exact (Nat.mod_eq_of_lt v.isLt).symm
  · simp only [BitVec.toNat_setWidth]; omega

theorem toXlen_narrow (c : Cfg) (v : DWord) (h : c.impl64 = false) : (Cfg.toXlen c v).extractLsb' 32 32 = 0#32 := by
  apply BitVec.eq_of_toNat_eq
  have := toXlen_toNat c v
  simp only [h, Bool.false_eq_true, if_false] at this
  simp only [BitVec.extractLsb'_toNat, this, Nat.shiftRight_eq_div_pow, BitVec.toNat_ofNat]
  omega

/-- Two states with the same computation mode cut addresses the same way. -/
theorem modeAddr_congr {s t : State} (hc : t.cfg = s.cfg) (hm : t.mode64 = s.mode64) (a : DWord) :
    t.modeAddr a = s.modeAddr a := by
  unfold State.modeAddr State.is64
  rw [hc, hm]

theorem alignDown_toNat (k : Nat) (a : DWord) : (alignDown k a).toNat = a.toNat - a.toNat % 2 ^ k := by
  have h : a.toNat < 2 ^ 64 := a.isLt
  have e : 2 ^ k * (a.toNat / 2 ^ k) + a.toNat % 2 ^ k = a.toNat := Nat.div_add_mod _ _
  simp only [alignDown, BitVec.toNat_shiftLeft, BitVec.toNat_ushiftRight, Nat.shiftRight_eq_div_pow, Nat.shiftLeft_eq]
  rw [Nat.mul_comm, Nat.mod_eq_of_lt (by omega)]
  omega

/-- The four low bits of an address, as a number. -/
theorem low4_eq (a : DWord) : low4 a = a.toNat % 16 := by simp [low4, BitVec.toNat_setWidth]

theorem low4_lt (a : DWord) : low4 a < 16 := by rw [low4_eq]; omega

end Sys2Proof.Machine
end

