-- ==== Sys2Proof/Laws/Flags.lean ====
section
/-! SUPPORT. Laws of saturation, SAT and CR6. -/

namespace Sys2Proof.Machine

open Sys2Proof

theorem satU_flag (n : Nat) (k : Int) : (satU n k).2 = true ↔ k < 0 ∨ 2 ^ n - 1 < k := by
  unfold satU
  split
  · simp [*]
  · split
    · simp [*]
    · simp only [Bool.false_eq_true, false_iff]; omega

theorem satS_flag (n : Nat) (k : Int) : (satS n k).2 = true ↔ k < -2 ^ (n - 1) ∨ 2 ^ (n - 1) - 1 < k := by
  unfold satS
  split
  · simp [*]
  · split
    · simp [*]
    · simp only [Bool.false_eq_true, false_iff]; omega

theorem anySat_iff (k : Nat) (f : Nat → Bool) : anySat k f = true ↔ ∃ j < k, f j = true := by
  induction k with
  | zero => simp [anySat]
  | succ k ih =>
    simp only [anySat, Bool.or_eq_true, ih]
    constructor
    · rintro (⟨j, hj, h⟩ | h)
      · exact ⟨j, by omega, h⟩
      · exact ⟨k, by omega, h⟩
    · rintro ⟨j, hj, h⟩
      rcases Nat.lt_succ_iff_lt_or_eq.1 hj with hj | rfl
      · exact .inl ⟨j, hj, h⟩
      · exact .inr h

/-- SAT after an OR into it. -/
theorem orSat_sat (s : State) (b : Bool) : (s.orSat b).sat = (s.sat || b) := by
  cases b <;> simp [State.sat]

/-- The other bits of the VSCR after an OR into SAT. -/
theorem orSat_other (s : State) (b : Bool) (i : Nat) (h : i ≠ 0) : (s.orSat b).vscr.getLsbD i = s.vscr.getLsbD i := by
  cases b <;> simp [h]

end Sys2Proof.Machine
end

