-- ==== Sys2Proof/Laws/Memory.lean ====
section
/-! SUPPORT. Laws of memory: a read after a write, and the canonical form, which every memory operation keeps. -/

namespace Sys2Proof.Machine

open Sys2Proof

/-- Every entry's address is above `k`. -/
theorem memRead_above (m : List Host.Cell) (k : Nat) (h : ∀ c ∈ m, k < c.1) : memRead m k = memDefault := by
  induction m with
  | nil => rfl
  | cons c m ih =>
    have h1 := h c (by simp)
    have h2 : k ≠ c.1 := by omega
    simp [memRead, h2, ih (fun d hd => h d (by simp [hd]))]

theorem memWrite_mem (m : List Host.Cell) (k : Nat) (v : Byte) (c : Host.Cell) (h : c ∈ memWrite m k v) :
    c ∈ m ∨ (c = (k, v) ∧ v ≠ memDefault) := by
  induction m with
  | nil =>
    simp only [memWrite] at h
    split at h
    · simp at h
    · rename_i hv; simp at h; exact .inr ⟨h, hv⟩
  | cons d m ih =>
    obtain ⟨a, b⟩ := d
    simp only [memWrite] at h
    split at h
    · split at h
      · exact .inl h
      · rename_i hv
        rcases List.mem_cons.1 h with rfl | h
        · exact .inr ⟨rfl, hv⟩
        · exact .inl h
    · split at h
      · split at h
        · exact .inl (by simp [h])
        · rename_i hv
          rcases List.mem_cons.1 h with rfl | h
          · exact .inr ⟨rfl, hv⟩
          · exact .inl (by simp [h])
      · rcases List.mem_cons.1 h with rfl | h
        · exact .inl (by simp)
        · rcases ih h with h | h
          · exact .inl (by simp [h])
          · exact .inr h

/-- A write keeps the canonical form. -/
theorem memWrite_wf (m : List Host.Cell) (k : Nat) (v : Byte) (hm : Memory.wf m) (hk : k < 2 ^ 64) :
    Memory.wf (memWrite m k v) := by
  refine ⟨?_, fun c hc => ?_⟩
  · obtain ⟨hp, -⟩ := hm
    induction m with
    | nil => simp only [memWrite]; split <;> simp
    | cons d m ih =>
      obtain ⟨a, b⟩ := d
      obtain ⟨h1, h2⟩ := List.pairwise_cons.1 hp
      simp only [memWrite]
      split
      · rename_i hlt
        split
        · exact hp
        · refine List.pairwise_cons.2 ⟨fun c hc => ?_, hp⟩
          rcases List.mem_cons.1 hc with rfl | hc
          · exact hlt
          · exact Nat.lt_trans hlt (h1 c hc)
      · split
        · rename_i he
          split
          · exact h2
          · exact List.pairwise_cons.2 ⟨fun c hc => by simpa [he] using h1 c hc, h2⟩
        · rename_i hlt hne
          refine List.pairwise_cons.2 ⟨fun c hc => ?_, ih h2⟩
          rcases memWrite_mem m k v c hc with hc | ⟨rfl, -⟩
          · exact h1 c hc
          · simp only; omega
  · rcases memWrite_mem m k v c hc with hc | ⟨rfl, hv⟩
    · exact hm.2 c hc
    · exact ⟨hk, hv⟩

/-- A read after a write: the value written there, every other address as before. -/
theorem memRead_memWrite (m : List Host.Cell) (k j : Nat) (v : Byte) (hm : Memory.wf m) :
    memRead (memWrite m k v) j = if j = k then v else memRead m j := by
  obtain ⟨hp, -⟩ := hm
  induction m with
  | nil =>
    simp only [memWrite]
    split
    · rename_i h; simp [memRead, h]
    · by_cases h : j = k <;> simp [memRead, h]
  | cons d m ih =>
    obtain ⟨a, b⟩ := d
    obtain ⟨h1, h2⟩ := List.pairwise_cons.1 hp
    simp only [memWrite]
    split
    · rename_i hlt
      split
      · rename_i hv
        by_cases h : j = k
        · subst h
          rw [memRead_above _ _ (fun c hc => ?_), hv]; simp
          rcases List.mem_cons.1 hc with rfl | hc
          · exact hlt
          · exact Nat.lt_trans hlt (h1 c hc)
        · simp [h]
      · by_cases h : j = k <;> simp [memRead, h]
    · split
      · rename_i he
        subst he
        split
        · rename_i hv
          by_cases h : j = k
          · subst h
            rw [memRead_above _ _ (fun c hc => h1 c hc), hv]; simp
          · simp [memRead, h]
        · by_cases h : j = k <;> simp [memRead, h]
      · rename_i hlt hne
        by_cases h : j = a
        · subst h
          simp [memRead, Ne.symm hne]
        · simp [memRead, h, ih h2]

/-! ### Bytes of the state -/

theorem readByte_writeByte (s : State) (a b : DWord) (v : Byte) (hm : Memory.wf s.mem) :
    (s.writeByte a v).readByte b = if b = a then v else s.readByte b := by
  simp only [State.readByte, writeByte_mem, memRead_memWrite _ _ _ _ hm, BitVec.toNat_inj]

theorem writeByte_wf (s : State) (a : DWord) (v : Byte) (hm : Memory.wf s.mem) : Memory.wf (s.writeByte a v).mem :=
  memWrite_wf _ _ _ hm a.isLt

theorem writeBytes_wf (s : State) (a : DWord) (n : Nat) (f : Nat → Byte) (hm : Memory.wf s.mem) :
    Memory.wf (s.writeBytes a n f).mem := by
  induction n with
  | zero => exact hm
  | succ n ih => exact writeByte_wf _ _ _ ih

/-- Distinct offsets below 2^64 are distinct addresses. -/
theorem add_ofNat_inj (a : DWord) (i j : Nat) (hi : i < 2 ^ 64) (hj : j < 2 ^ 64) :
    a + BitVec.ofNat 64 i = a + BitVec.ofNat 64 j ↔ i = j := by
  constructor
  · intro h
    have h1 : BitVec.ofNat 64 i = BitVec.ofNat 64 j := by simpa using h
    have h2 := congrArg BitVec.toNat h1
    rw [BitVec.toNat_ofNat, BitVec.toNat_ofNat, Nat.mod_eq_of_lt hi, Nat.mod_eq_of_lt hj] at h2
    exact h2
  · rintro rfl; rfl

/-- What the bytes of a block write read as. -/
theorem byteAt_writeBytes (s : State) (a : DWord) (n : Nat) (f : Nat → Byte) (k : Nat) (hm : Memory.wf s.mem)
    (hn : n ≤ 2 ^ 64) (hk : k < n) : (s.writeBytes a n f).byteAt a k = f k := by
  induction n with
  | zero => omega
  | succ n ih =>
    simp only [State.byteAt, State.writeBytes]
    rw [readByte_writeByte _ _ _ _ (writeBytes_wf s a n f hm)]
    split
    · rename_i h; rw [(add_ofNat_inj a k n (by omega) (by omega)).1 h]
    · rename_i h
      exact ih (by omega) (by have : k ≠ n := fun e => h (by rw [e]); omega)

/-- A block write leaves every byte outside the block. -/
theorem readByte_writeBytes (s : State) (a b : DWord) (n : Nat) (f : Nat → Byte) (hm : Memory.wf s.mem)
    (hb : ∀ k < n, b ≠ a + BitVec.ofNat 64 k) : (s.writeBytes a n f).readByte b = s.readByte b := by
  induction n with
  | zero => rfl
  | succ n ih =>
    simp only [State.writeBytes]
    rw [readByte_writeByte _ _ _ _ (writeBytes_wf s a n f hm), if_neg (hb n (by omega)),
      ih (fun k hk => hb k (by omega))]

/-- A byte reads the same in two states with the same memory. -/
theorem readByte_congr {s t : State} (h : t.mem = s.mem) (a : DWord) : t.readByte a = s.readByte a := by
  simp only [State.readByte, h]

theorem reset_mem_wf : Memory.wf State.reset.mem := by decide

end Sys2Proof.Machine
end

