-- ==== Sys2Proof/Laws/Ops.lean ====
section
/-! SUPPORT. For each shared operation, what it can do: the state it leaves, the part of the state it leaves unchanged, and
when it takes an interrupt instead. -/

namespace Sys2Proof.Machine

open Sys2Proof

/-! ### Frames -/

theorem crBit_congr {s t : State} (h : t.cr = s.cr) (i : BitVec 5) : t.crBit i = s.crBit i := by
  simp only [State.crBit, h]

theorem sat_congr {s t : State} (h : t.vscr = s.vscr) : t.sat = s.sat := by simp only [State.sat, h]

/-- Completing with a vector register written changes that register and the pc. -/
theorem frame_setVr (s : State) (r : Reg) (v : Vec) : Frame [.vr r] s (s.setVr r v).advance := by
  constructor <;> try simp
  · intro q hq
    exact (vr_setVr ..).trans (if_neg hq)
  · exact fun q => gpr_congr (by simp) q
  · exact sat_congr (by simp)
  · exact fun i _ => crBit_congr (by simp) i
  · exact fun b => readByte_congr (by simp) b

/-- The same with SAT ORed. -/
theorem frame_setVr_orSat (s : State) (r : Reg) (v : Vec) (b : Bool) :
    Frame [.vr r, .sat] s ((s.setVr r v).orSat b).advance := by
  constructor <;> try simp
  · intro q hq
    exact (vr_setVr ..).trans (if_neg hq)
  · exact fun q => gpr_congr (by simp) q
  · intro i hi
    cases b <;> simp [hi]
  · exact fun i _ => crBit_congr (by simp) i
  · exact fun b => readByte_congr (by simp) b

/-- The same with free values drawn. -/
theorem frame_drawn_setVr (s : State) (r : Reg) (v : Vec) (n : Nat) :
    Frame [.vr r, .draws] s ((s.drawn n).setVr r v).advance := by
  constructor <;> try simp
  · intro q hq
    exact (vr_setVr ..).trans (if_neg hq)
  · exact fun q => gpr_congr (by simp) q
  · exact sat_congr (by simp)
  · exact fun i _ => crBit_congr (by simp) i
  · exact fun b => readByte_congr (by simp) b

/-- Advancing the pc changes the pc alone. -/
theorem frame_advance (s : State) : Frame [] s s.advance := by
  constructor <;> try simp
  · exact fun q => vr_congr (by simp) q
  · exact fun q => gpr_congr (by simp) q
  · exact sat_congr (by simp)
  · exact fun i _ => crBit_congr (by simp) i
  · exact fun b => readByte_congr (by simp) b

/-- Completing with a general register written changes that register and the pc. -/
theorem frame_setGpr (s : State) (r : Reg) (v : DWord) : Frame [.gpr r] s (s.setGpr r v).advance := by
  constructor <;> try simp
  · exact fun q => vr_congr (by simp) q
  · intro q hq
    exact (gpr_setGpr ..).trans (if_neg hq)
  · exact sat_congr (by simp)
  · exact fun i _ => crBit_congr (by simp) i
  · exact fun b => readByte_congr (by simp) b

/-- A completed store changes the bytes it writes and the pc. -/
theorem frame_writeBytes (s : State) (a : DWord) (n : Nat) (f : Nat → Byte) (hm : Memory.wf s.mem) :
    Frame [.bytes a n] s (s.writeBytes a n f).advance := by
  constructor <;> try simp
  · exact fun q => vr_congr (by simp) q
  · exact fun q => gpr_congr (by simp) q
  · exact sat_congr (by simp)
  · exact fun i _ => crBit_congr (by simp) i
  · intro b hb
    rw [readByte_congr (s := s.writeBytes a n f) (by simp)]
    exact readByte_writeBytes s a b n f hm fun k hk e => hb ⟨k, hk, e⟩

/-- CR6 after a compare has recorded `f`, and the other CR bits. -/
theorem setCr6_cr6 (s : State) (f : BitVec 4) : (s.setCr6 f).cr6 = f := by
  apply BitVec.eq_of_getLsbD_eq
  intro i hi
  have h : i = 0 ∨ i = 1 ∨ i = 2 ∨ i = 3 := by omega
  rcases h with rfl | rfl | rfl | rfl <;> simp [State.cr6, State.setCr6]

theorem setCr6_other (s : State) (f : BitVec 4) (i : BitVec 5) (h : i.toNat < 24 ∨ 27 < i.toNat) :
    (s.setCr6 f).crBit i = s.crBit i := by
  have hi : i.toNat < 32 := i.isLt
  generalize e : i.toNat = n at *
  simp only [State.crBit, setCr6_cr, e]
  interval_cases n <;> first | omega | simp [BitVec.getMsbD]

/-- A completed compare changes vD, the pc, and with Rc = 1 CR6. -/
theorem frame_compare (s : State) (r : Reg) (v : Vec) (rc : Bool) (f : BitVec 4) :
    Frame (compareParts r rc) s (if rc then (s.setVr r v).setCr6 f else s.setVr r v).advance := by
  cases rc with
  | false => exact frame_setVr s r v
  | true =>
    constructor <;> try simp [compareParts]
    · intro q hq
      exact (vr_setVr ..).trans (if_neg hq)
    · exact fun q => gpr_congr (by simp) q
    · exact sat_congr (by simp)
    · intro i h
      rw [crBit_congr (s := (s.setVr r v).setCr6 f) (by simp), setCr6_other _ _ _ h]
      exact crBit_congr (by simp) i
    · exact fun b => readByte_congr (by simp) b

/-! ### Taking an interrupt and returning -/

/-- Interrupt entry that is not directed to the guest (rule R450). -/
theorem takeInterrupt_entered (s : State) (k : Interrupt) (syn : Option Word) (addr : Option DWord) :
    Entered k syn addr [] s (s.takeInterrupt k syn addr false) := by
  constructor <;> try simp
  · simp [State.spv, msrEntryMask]
  · simp [State.prBit, msrEntryMask]
  · intro i h25 h14
    by_cases h : i < 64
    · interval_cases i <;> first | omega | simp [msrEntryMask]
    · simp [BitVec.getLsbD_of_ge _ _ (Nat.le_of_not_lt h)]
  · constructor <;> try simp
    · exact fun q => vr_congr (by simp) q
    · exact fun q => gpr_congr (by simp) q
    · exact sat_congr (by simp)
    · exact fun i _ => crBit_congr (by simp) i
    · exact fun b => readByte_congr (by simp) b

/-- `RequireSPV()`: the instruction goes on, or AltiVec unavailable is all that happens (rule R441). -/
theorem vectorRule_of_requireSpv {i : Instr} {s : State} {may : List Part} {E : State → Prop} {r : Result}
    (h : exec i s = requireSpv s r)
    (hr : s.spv = true → ∃ t, r = .next t ∧ t.pc = s.modeAddr (s.pc + 4) ∧ E t ∧ Frame may s t) :
    VectorRule i s may E := by
  refine ⟨fun hs => ?_, fun hs => ⟨_, by rw [h, requireSpv, hs]; rfl, takeInterrupt_entered ..⟩⟩
  obtain ⟨t, rfl, ht⟩ := hr hs
  exact ⟨t, by rw [h, requireSpv, if_pos hs], ht⟩

/-- An instruction of one source. -/
theorem vectorRule_vec1 {i : Instr} {s : State} {f : Vec → Vec} {vd vb : Reg} {E : State → Prop}
    (h : exec i s = vec1 f vd vb s) (hE : ∀ t : State, t.vr vd = f (s.vr vb) → E t) : VectorRule i s [.vr vd] E :=
  vectorRule_of_requireSpv h fun _ =>
    ⟨_, rfl, rfl, hE _ (vr_setVr_same ..), frame_setVr ..⟩

/-- An instruction of two sources. -/
theorem vectorRule_vec2 {i : Instr} {s : State} {f : Vec → Vec → Vec} {vd va vb : Reg} {E : State → Prop}
    (h : exec i s = vec2 f vd va vb s) (hE : ∀ t : State, t.vr vd = f (s.vr va) (s.vr vb) → E t) :
    VectorRule i s [.vr vd] E :=
  vectorRule_of_requireSpv h fun _ =>
    ⟨_, rfl, rfl, hE _ (vr_setVr_same ..), frame_setVr ..⟩

/-- An instruction of three sources. -/
theorem vectorRule_vec3 {i : Instr} {s : State} {f : Vec → Vec → Vec → Vec} {vd va vb vc : Reg} {E : State → Prop}
    (h : exec i s = vec3 f vd va vb vc s) (hE : ∀ t : State, t.vr vd = f (s.vr va) (s.vr vb) (s.vr vc) → E t) :
    VectorRule i s [.vr vd] E :=
  vectorRule_of_requireSpv h fun _ =>
    ⟨_, rfl, rfl,
      hE _ (vr_setVr_same ..), frame_setVr ..⟩

/-- What a saturating instruction leaves: the vector, and SAT ORed with its flag. -/
theorem completeSat_spec (s : State) (vd : Reg) (r : Vec × Bool) :
    ∃ t, completeSat s vd r = .next t ∧ t.pc = s.modeAddr (s.pc + 4) ∧ (t.vr vd = r.1 ∧ t.sat = (s.sat || r.2)) ∧
      Frame [.vr vd, .sat] s t := by
  refine ⟨_, rfl, rfl, ⟨?_, ?_⟩, frame_setVr_orSat ..⟩
  · exact vr_setVr_same ..
  · exact orSat_sat ..

/-- A saturating instruction of two sources. -/
theorem vectorRule_vec2Sat {i : Instr} {s : State} {f : Vec → Vec → Vec × Bool} {vd va vb : Reg} {E : State → Prop}
    (h : exec i s = vec2Sat f vd va vb s)
    (hE : ∀ t : State, t.vr vd = (f (s.vr va) (s.vr vb)).1 → t.sat = (s.sat || (f (s.vr va) (s.vr vb)).2) → E t) :
    VectorRule i s [.vr vd, .sat] E :=
  vectorRule_of_requireSpv h fun _ => by
    obtain ⟨t, h1, h2, ⟨h3, h4⟩, h5⟩ := completeSat_spec s vd (f (s.vr va) (s.vr vb))
    exact ⟨t, h1, h2, hE t h3 h4, h5⟩

/-- A saturating instruction of three sources. -/
theorem vectorRule_vec3Sat {i : Instr} {s : State} {f : Vec → Vec → Vec → Vec × Bool} {vd va vb vc : Reg}
    {E : State → Prop} (h : exec i s = vec3Sat f vd va vb vc s)
    (hE : ∀ t : State, t.vr vd = (f (s.vr va) (s.vr vb) (s.vr vc)).1 →
      t.sat = (s.sat || (f (s.vr va) (s.vr vb) (s.vr vc)).2) → E t) :
    VectorRule i s [.vr vd, .sat] E :=
  vectorRule_of_requireSpv h fun _ => by
    obtain ⟨t, h1, h2, ⟨h3, h4⟩, h5⟩ := completeSat_spec s vd (f (s.vr va) (s.vr vb) (s.vr vc))
    exact ⟨t, h1, h2, hE t h3 h4, h5⟩

/-- What a compare leaves: the masks, and with Rc = 1 the record in CR6. -/
theorem completeCompare_spec (s : State) (vd : Reg) (rc : Bool) (v : Vec) (record : Vec → BitVec 4) :
    ∃ t, completeCompare s vd rc v record = .next t ∧ t.pc = s.modeAddr (s.pc + 4) ∧
      (t.vr vd = v ∧ (rc = true → t.cr6 = record v)) ∧ Frame (compareParts vd rc) s t := by
  refine ⟨_, rfl, ?_, ⟨?_, ?_⟩, frame_compare ..⟩
  · cases rc <;> rfl
  · cases rc
    · exact vr_setVr_same ..
    · exact vr_setVr_same ..
  · rintro rfl
    exact setCr6_cr6 (s.setVr vd v) (record v)

/-! ### Words outside the model -/

/-- What is left to the base machine: its next state, or the refusal (rule R430). -/
theorem orBase_spec (s : State) (x : Refusal) : LeftToBase s x (orBase s x) :=
  ⟨fun h => by rw [orBase, h], fun t h => by rw [orBase, h]⟩

/-- It answers a next state only where the base machine gives that state. -/
theorem orBase_next {s t : State} {x : Refusal} (h : orBase s x = .next t) : s.baseMachine = some t := by
  unfold orBase at h
  split at h
  · simp_all
  · cases h

/-- Where no base machine is supplied there is none. -/
theorem baseMachine_refuse {s : State} (h : s.cfg.baseStep = .refuse) : s.baseMachine = none := by
  rw [State.baseMachine, h]

/-! ### Fetching -/

/-- A fetch whose translation succeeds goes on with the word at the real address (rules R42, R80). -/
theorem fetch_ok {s : State} {real : DWord} {m : MemAttr} (ha : s.pc.setWidth 2 = 0#2)
    (h : s.translate s.pc .load s.normalCtx = .ok real m) (go : Word → Result) :
    fetch s go = go (s.readWord real) := by
  rw [fetch, if_pos ha, State.fetchXlat, h]

/-- A fetch that answers a next state found the pc aligned and its translation granted. -/
theorem fetch_next {s t : State} {go : Word → Result} (h : fetch s go = .next t) :
    s.pc.setWidth 2 = 0#2 ∧
      ∃ real m, s.translate s.pc .load s.normalCtx = .ok real m ∧ go (s.readWord real) = .next t := by
  unfold fetch at h
  split at h
  · split at h
    · exact ⟨‹_›, _, _, ‹_›, h⟩
    · cases h
  · cases h

/-! ### Accesses to memory -/

/-- An access whose translation succeeds goes on at the real address; one whose translation fails takes the storage
interrupt (rule R66). -/
theorem access_ok {s : State} {ea real : DWord} {kind : AccessKind} {ctx : AccessCtx} {m : MemAttr}
    (h : s.translate ea kind ctx = .ok real m) (ext : Bool) (u : State) (go : DWord → Result) :
    access s ea kind ctx ext u go = go real := by simp only [access, h]

theorem access_fault {s : State} {ea : DWord} {kind : AccessKind} {ctx : AccessCtx} {f : StorageFault} {g : Bool}
    (h : s.translate ea kind ctx = .fault f g) (ext : Bool) (u : State) (go : DWord → Result) :
    access s ea kind ctx ext u go = .next (u.storageInterrupt f g ea (kind == .store) ext) := by
  simp only [access, h]

/-- Whether the page is little-endian does not matter to the alignment test (rules R53, R65). -/
theorem ciOrWt_ok {s : State} {ea real : DWord} {kind : AccessKind} {m : MemAttr}
    (h : s.translate ea kind s.normalCtx = .ok real m) : s.ciOrWt ea kind = (m.cachingInhibited || m.writeThrough) := by
  simp only [State.ciOrWt, h]

/-- With no platform entry an address is its own translation. -/
theorem translate_identity {s : State} (h : s.xlat = []) (ea : DWord) (kind : AccessKind) (ctx : AccessCtx) :
    s.translate ea kind ctx = .ok ea MemAttr.plain := by simp [State.translate, h]

/-- Where no alignment interrupt is due the form goes on (rule R455). -/
theorem orAlignment_not_due {s : State} {ea : DWord} {kind : AccessKind} (h : s.alignmentDue ea kind = false)
    (r : Result) : orAlignment s ea kind r = r := by
  simp only [State.alignmentDue] at h
  simp [orAlignment, h]

/-- The assist test of a floating-point instruction (rule R444). -/
theorem orAssist_eq (i : Instr) (src : List Word) (s : State) (r : Result) :
    orAssist i src s r =
      if assistDue i src s then .next (s.takeInterrupt .altivecAssist none none false) else r := rfl

/-- The rule of a floating-point instruction, from what it does once nothing interrupts it. -/
theorem floatRule_of_orAssist {i : Instr} {src : List Word} {s : State} {may : List Part} {E : State → Prop}
    {r : Result} (h : exec i s = requireSpv s (orAssist i src s r))
    (hr : ∃ t, r = .next t ∧ t.pc = s.modeAddr (s.pc + 4) ∧ E t ∧ Frame may s t) : FloatRule i src s may E := by
  refine ⟨fun hs ha => ?_, fun hs ha => ?_, fun hs => ?_⟩
  · obtain ⟨t, rfl, ht⟩ := hr
    exact ⟨t, by rw [h, requireSpv, if_pos hs, orAssist_eq, ha]; rfl, ht⟩
  · exact ⟨_, by rw [h, requireSpv, if_pos hs, orAssist_eq, if_pos ha], takeInterrupt_entered ..⟩
  · exact ⟨_, by rw [h, requireSpv, hs]; rfl, takeInterrupt_entered ..⟩

/-- A completed load or move: vD holds the vector. -/
theorem complete_spec (s : State) (vd : Reg) (v : Vec) :
    ∃ t, complete s vd v = .next t ∧ t.pc = s.modeAddr (s.pc + 4) ∧ t.vr vd = v ∧ Frame [.vr vd] s t :=
  ⟨_, rfl, rfl, vr_setVr_same .., frame_setVr ..⟩

/-- A completed load that has drawn free values. -/
theorem complete_drawn_spec (s : State) (n : Nat) (vd : Reg) (v : Vec) :
    ∃ t, complete (s.drawn n) vd v = .next t ∧ t.pc = s.modeAddr (s.pc + 4) ∧ (t.vr vd = v ∧ t.freeCtr = s.freeCtr + n) ∧
      Frame [.vr vd, .draws] s t :=
  ⟨_, rfl, rfl, ⟨vr_setVr_same .., rfl⟩, frame_drawn_setVr ..⟩

/-- A completed store: the bytes at the real address are those stored. -/
theorem writeBytes_spec (s : State) (a : DWord) (n : Nat) (f : Nat → Byte) (hm : Memory.wf s.mem) (hn : n ≤ 16) :
    (s.writeBytes a n f).advance.pc = s.modeAddr (s.pc + 4) ∧
      (∀ k < n, (s.writeBytes a n f).advance.byteAt a k = f k) ∧ Frame [.bytes a n] s (s.writeBytes a n f).advance := by
  refine ⟨?_, fun k hk => ?_, frame_writeBytes s a n f hm⟩
  · rw [advance_pc, writeBytes_pc, modeAddr_congr (s := s) (by simp) (by simp)]
  · have := byteAt_writeBytes s a n f k hm (by omega) hk
    simpa [State.byteAt, readByte_congr (s := s.writeBytes a n f) (t := (s.writeBytes a n f).advance) (by simp)] using this

end Sys2Proof.Machine
end

