-- ==== Sys2Proof/Laws/PerInstr.lean ====
section
/-! SUPPORT. A lemma for each instruction: the primary opcode of its encoding, bits 0 to 5, is one of the eight of the opcode
table, and it is 4 or 31 for every instruction of the AltiVec unit and 4 only for one that tests MSR[SPV] (30_encoding.md
rules R81 and R96 to R99, 49_base_isa_subset.md rule R420). -/

namespace Sys2Proof.Laws.PrimaryOpcode

open Sys2Proof Sys2Proof.Machine

/-- The primary opcodes of the instructions of a class. -/
def opcodesOf : InstrKind → List Nat
  | .base => [14, 15, 16, 18, 19, 24, 31]
  | .stream | .externalPid => [31]
  | .vector => [4, 31]

/-- The primary opcode of an instruction is one of its class. -/
def Statement (i : Instr) : Prop := (insnField (encode i) 0 6).toNat ∈ opcodesOf (kindOf i)

/-- A class and an encoding whose primary opcode is known give the statement. -/
theorem of_field {i : Instr} {k : InstrKind} {v : BitVec 6} (hk : kindOf i = k) (h : insnField (encode i) 0 6 = v)
    (hm : v.toNat ∈ opcodesOf k) : Statement i := by
  rw [Statement, hk, h]; exact hm

theorem lvsl (vd : Reg) (ra : Reg) (rb : Reg) : Statement (.lvsl vd ra rb) :=
  of_field (k := .vector) (v := 31) rfl (wordX_fields ..).1 (by decide)

theorem lvebx (vd : Reg) (ra : Reg) (rb : Reg) : Statement (.lvebx vd ra rb) :=
  of_field (k := .vector) (v := 31) rfl (wordX_fields ..).1 (by decide)

theorem lvsr (vd : Reg) (ra : Reg) (rb : Reg) : Statement (.lvsr vd ra rb) :=
  of_field (k := .vector) (v := 31) rfl (wordX_fields ..).1 (by decide)

theorem lvehx (vd : Reg) (ra : Reg) (rb : Reg) : Statement (.lvehx vd ra rb) :=
  of_field (k := .vector) (v := 31) rfl (wordX_fields ..).1 (by decide)

theorem mviwsplt (vd : Reg) (ra : Reg) (rb : Reg) : Statement (.mviwsplt vd ra rb) :=
  of_field (k := .vector) (v := 31) rfl (wordX_fields ..).1 (by decide)

theorem lvewx (vd : Reg) (ra : Reg) (rb : Reg) : Statement (.lvewx vd ra rb) :=
  of_field (k := .vector) (v := 31) rfl (wordX_fields ..).1 (by decide)

theorem lvx (vd : Reg) (ra : Reg) (rb : Reg) : Statement (.lvx vd ra rb) :=
  of_field (k := .vector) (v := 31) rfl (wordX_fields ..).1 (by decide)

theorem mvidsplt (vd : Reg) (ra : Reg) (rb : Reg) : Statement (.mvidsplt vd ra rb) :=
  of_field (k := .vector) (v := 31) rfl (wordX_fields ..).1 (by decide)

theorem stvebx (vs : Reg) (ra : Reg) (rb : Reg) : Statement (.stvebx vs ra rb) :=
  of_field (k := .vector) (v := 31) rfl (wordX_fields ..).1 (by decide)

theorem stvehx (vs : Reg) (ra : Reg) (rb : Reg) : Statement (.stvehx vs ra rb) :=
  of_field (k := .vector) (v := 31) rfl (wordX_fields ..).1 (by decide)

theorem stvewx (vs : Reg) (ra : Reg) (rb : Reg) : Statement (.stvewx vs ra rb) :=
  of_field (k := .vector) (v := 31) rfl (wordX_fields ..).1 (by decide)

theorem stvx (vs : Reg) (ra : Reg) (rb : Reg) : Statement (.stvx vs ra rb) :=
  of_field (k := .vector) (v := 31) rfl (wordX_fields ..).1 (by decide)

theorem lvexbx (vd : Reg) (ra : Reg) (rb : Reg) : Statement (.lvexbx vd ra rb) :=
  of_field (k := .vector) (v := 31) rfl (wordX_fields ..).1 (by decide)

theorem lvepxl (vd : Reg) (ra : Reg) (rb : Reg) : Statement (.lvepxl vd ra rb) :=
  of_field (k := .externalPid) (v := 31) rfl (wordX_fields ..).1 (by decide)

theorem lvexhx (vd : Reg) (ra : Reg) (rb : Reg) : Statement (.lvexhx vd ra rb) :=
  of_field (k := .vector) (v := 31) rfl (wordX_fields ..).1 (by decide)

theorem lvepx (vd : Reg) (ra : Reg) (rb : Reg) : Statement (.lvepx vd ra rb) :=
  of_field (k := .externalPid) (v := 31) rfl (wordX_fields ..).1 (by decide)

theorem lvexwx (vd : Reg) (ra : Reg) (rb : Reg) : Statement (.lvexwx vd ra rb) :=
  of_field (k := .vector) (v := 31) rfl (wordX_fields ..).1 (by decide)

theorem lvxl (vd : Reg) (ra : Reg) (rb : Reg) : Statement (.lvxl vd ra rb) :=
  of_field (k := .vector) (v := 31) rfl (wordX_fields ..).1 (by decide)

theorem stvexbx (vs : Reg) (ra : Reg) (rb : Reg) : Statement (.stvexbx vs ra rb) :=
  of_field (k := .vector) (v := 31) rfl (wordX_fields ..).1 (by decide)

theorem stvexhx (vs : Reg) (ra : Reg) (rb : Reg) : Statement (.stvexhx vs ra rb) :=
  of_field (k := .vector) (v := 31) rfl (wordX_fields ..).1 (by decide)

theorem stvexwx (vs : Reg) (ra : Reg) (rb : Reg) : Statement (.stvexwx vs ra rb) :=
  of_field (k := .vector) (v := 31) rfl (wordX_fields ..).1 (by decide)

theorem stvxl (vs : Reg) (ra : Reg) (rb : Reg) : Statement (.stvxl vs ra rb) :=
  of_field (k := .vector) (v := 31) rfl (wordX_fields ..).1 (by decide)

theorem lvtrx (vd : Reg) (ra : Reg) (rb : Reg) : Statement (.lvtrx vd ra rb) :=
  of_field (k := .vector) (v := 31) rfl (wordX_fields ..).1 (by decide)

theorem lvtlx (vd : Reg) (ra : Reg) (rb : Reg) : Statement (.lvtlx vd ra rb) :=
  of_field (k := .vector) (v := 31) rfl (wordX_fields ..).1 (by decide)

theorem lvswx (vd : Reg) (ra : Reg) (rb : Reg) : Statement (.lvswx vd ra rb) :=
  of_field (k := .vector) (v := 31) rfl (wordX_fields ..).1 (by decide)

theorem stvfrx (vs : Reg) (ra : Reg) (rb : Reg) : Statement (.stvfrx vs ra rb) :=
  of_field (k := .vector) (v := 31) rfl (wordX_fields ..).1 (by decide)

theorem stvflx (vs : Reg) (ra : Reg) (rb : Reg) : Statement (.stvflx vs ra rb) :=
  of_field (k := .vector) (v := 31) rfl (wordX_fields ..).1 (by decide)

theorem stvswx (vs : Reg) (ra : Reg) (rb : Reg) : Statement (.stvswx vs ra rb) :=
  of_field (k := .vector) (v := 31) rfl (wordX_fields ..).1 (by decide)

theorem lvsm (vd : Reg) (ra : Reg) (rb : Reg) : Statement (.lvsm vd ra rb) :=
  of_field (k := .vector) (v := 31) rfl (wordX_fields ..).1 (by decide)

theorem stvepxl (vs : Reg) (ra : Reg) (rb : Reg) : Statement (.stvepxl vs ra rb) :=
  of_field (k := .externalPid) (v := 31) rfl (wordX_fields ..).1 (by decide)

theorem lvtrxl (vd : Reg) (ra : Reg) (rb : Reg) : Statement (.lvtrxl vd ra rb) :=
  of_field (k := .vector) (v := 31) rfl (wordX_fields ..).1 (by decide)

theorem stvepx (vs : Reg) (ra : Reg) (rb : Reg) : Statement (.stvepx vs ra rb) :=
  of_field (k := .externalPid) (v := 31) rfl (wordX_fields ..).1 (by decide)

theorem lvtlxl (vd : Reg) (ra : Reg) (rb : Reg) : Statement (.lvtlxl vd ra rb) :=
  of_field (k := .vector) (v := 31) rfl (wordX_fields ..).1 (by decide)

theorem lvswxl (vd : Reg) (ra : Reg) (rb : Reg) : Statement (.lvswxl vd ra rb) :=
  of_field (k := .vector) (v := 31) rfl (wordX_fields ..).1 (by decide)

theorem stvfrxl (vs : Reg) (ra : Reg) (rb : Reg) : Statement (.stvfrxl vs ra rb) :=
  of_field (k := .vector) (v := 31) rfl (wordX_fields ..).1 (by decide)

theorem stvflxl (vs : Reg) (ra : Reg) (rb : Reg) : Statement (.stvflxl vs ra rb) :=
  of_field (k := .vector) (v := 31) rfl (wordX_fields ..).1 (by decide)

theorem stvswxl (vs : Reg) (ra : Reg) (rb : Reg) : Statement (.stvswxl vs ra rb) :=
  of_field (k := .vector) (v := 31) rfl (wordX_fields ..).1 (by decide)

theorem dst (strm : BitVec 2) (ra : Reg) (rb : Reg) : Statement (.dst strm ra rb) :=
  of_field (k := .stream) (v := 31) rfl (wordX_fields ..).1 (by decide)

theorem dstt (strm : BitVec 2) (ra : Reg) (rb : Reg) : Statement (.dstt strm ra rb) :=
  of_field (k := .stream) (v := 31) rfl (wordX_fields ..).1 (by decide)

theorem dstst (strm : BitVec 2) (ra : Reg) (rb : Reg) : Statement (.dstst strm ra rb) :=
  of_field (k := .stream) (v := 31) rfl (wordX_fields ..).1 (by decide)

theorem dststt (strm : BitVec 2) (ra : Reg) (rb : Reg) : Statement (.dststt strm ra rb) :=
  of_field (k := .stream) (v := 31) rfl (wordX_fields ..).1 (by decide)

theorem dss (strm : BitVec 2) : Statement (.dss strm) :=
  of_field (k := .stream) (v := 31) rfl (wordX_fields ..).1 (by decide)

theorem dssall (strm : BitVec 2) : Statement (.dssall strm) :=
  of_field (k := .stream) (v := 31) rfl (wordX_fields ..).1 (by decide)

theorem vaddubm (vd : Reg) (va : Reg) (vb : Reg) : Statement (.vaddubm vd va vb) :=
  of_field (k := .vector) (v := 4) rfl (wordVX_fields ..).1 (by decide)

theorem vmaxub (vd : Reg) (va : Reg) (vb : Reg) : Statement (.vmaxub vd va vb) :=
  of_field (k := .vector) (v := 4) rfl (wordVX_fields ..).1 (by decide)

theorem vrlb (vd : Reg) (va : Reg) (vb : Reg) : Statement (.vrlb vd va vb) :=
  of_field (k := .vector) (v := 4) rfl (wordVX_fields ..).1 (by decide)

theorem vmuloub (vd : Reg) (va : Reg) (vb : Reg) : Statement (.vmuloub vd va vb) :=
  of_field (k := .vector) (v := 4) rfl (wordVX_fields ..).1 (by decide)

theorem vaddfp (vd : Reg) (va : Reg) (vb : Reg) : Statement (.vaddfp vd va vb) :=
  of_field (k := .vector) (v := 4) rfl (wordVX_fields ..).1 (by decide)

theorem vmrghb (vd : Reg) (va : Reg) (vb : Reg) : Statement (.vmrghb vd va vb) :=
  of_field (k := .vector) (v := 4) rfl (wordVX_fields ..).1 (by decide)

theorem vpkuhum (vd : Reg) (va : Reg) (vb : Reg) : Statement (.vpkuhum vd va vb) :=
  of_field (k := .vector) (v := 4) rfl (wordVX_fields ..).1 (by decide)

theorem vadduhm (vd : Reg) (va : Reg) (vb : Reg) : Statement (.vadduhm vd va vb) :=
  of_field (k := .vector) (v := 4) rfl (wordVX_fields ..).1 (by decide)

theorem vmaxuh (vd : Reg) (va : Reg) (vb : Reg) : Statement (.vmaxuh vd va vb) :=
  of_field (k := .vector) (v := 4) rfl (wordVX_fields ..).1 (by decide)

theorem vrlh (vd : Reg) (va : Reg) (vb : Reg) : Statement (.vrlh vd va vb) :=
  of_field (k := .vector) (v := 4) rfl (wordVX_fields ..).1 (by decide)

theorem vmulouh (vd : Reg) (va : Reg) (vb : Reg) : Statement (.vmulouh vd va vb) :=
  of_field (k := .vector) (v := 4) rfl (wordVX_fields ..).1 (by decide)

theorem vsubfp (vd : Reg) (va : Reg) (vb : Reg) : Statement (.vsubfp vd va vb) :=
  of_field (k := .vector) (v := 4) rfl (wordVX_fields ..).1 (by decide)

theorem vmrghh (vd : Reg) (va : Reg) (vb : Reg) : Statement (.vmrghh vd va vb) :=
  of_field (k := .vector) (v := 4) rfl (wordVX_fields ..).1 (by decide)

theorem vpkuwum (vd : Reg) (va : Reg) (vb : Reg) : Statement (.vpkuwum vd va vb) :=
  of_field (k := .vector) (v := 4) rfl (wordVX_fields ..).1 (by decide)

theorem vadduwm (vd : Reg) (va : Reg) (vb : Reg) : Statement (.vadduwm vd va vb) :=
  of_field (k := .vector) (v := 4) rfl (wordVX_fields ..).1 (by decide)

theorem vmaxuw (vd : Reg) (va : Reg) (vb : Reg) : Statement (.vmaxuw vd va vb) :=
  of_field (k := .vector) (v := 4) rfl (wordVX_fields ..).1 (by decide)

theorem vrlw (vd : Reg) (va : Reg) (vb : Reg) : Statement (.vrlw vd va vb) :=
  of_field (k := .vector) (v := 4) rfl (wordVX_fields ..).1 (by decide)

theorem vmrghw (vd : Reg) (va : Reg) (vb : Reg) : Statement (.vmrghw vd va vb) :=
  of_field (k := .vector) (v := 4) rfl (wordVX_fields ..).1 (by decide)

theorem vpkuhus (vd : Reg) (va : Reg) (vb : Reg) : Statement (.vpkuhus vd va vb) :=
  of_field (k := .vector) (v := 4) rfl (wordVX_fields ..).1 (by decide)

theorem vpkuwus (vd : Reg) (va : Reg) (vb : Reg) : Statement (.vpkuwus vd va vb) :=
  of_field (k := .vector) (v := 4) rfl (wordVX_fields ..).1 (by decide)

theorem vmaxsb (vd : Reg) (va : Reg) (vb : Reg) : Statement (.vmaxsb vd va vb) :=
  of_field (k := .vector) (v := 4) rfl (wordVX_fields ..).1 (by decide)

theorem vslb (vd : Reg) (va : Reg) (vb : Reg) : Statement (.vslb vd va vb) :=
  of_field (k := .vector) (v := 4) rfl (wordVX_fields ..).1 (by decide)

theorem vmulosb (vd : Reg) (va : Reg) (vb : Reg) : Statement (.vmulosb vd va vb) :=
  of_field (k := .vector) (v := 4) rfl (wordVX_fields ..).1 (by decide)

theorem vmrglb (vd : Reg) (va : Reg) (vb : Reg) : Statement (.vmrglb vd va vb) :=
  of_field (k := .vector) (v := 4) rfl (wordVX_fields ..).1 (by decide)

theorem vpkshus (vd : Reg) (va : Reg) (vb : Reg) : Statement (.vpkshus vd va vb) :=
  of_field (k := .vector) (v := 4) rfl (wordVX_fields ..).1 (by decide)

theorem vmaxsh (vd : Reg) (va : Reg) (vb : Reg) : Statement (.vmaxsh vd va vb) :=
  of_field (k := .vector) (v := 4) rfl (wordVX_fields ..).1 (by decide)

theorem vslh (vd : Reg) (va : Reg) (vb : Reg) : Statement (.vslh vd va vb) :=
  of_field (k := .vector) (v := 4) rfl (wordVX_fields ..).1 (by decide)

theorem vmulosh (vd : Reg) (va : Reg) (vb : Reg) : Statement (.vmulosh vd va vb) :=
  of_field (k := .vector) (v := 4) rfl (wordVX_fields ..).1 (by decide)

theorem vmrglh (vd : Reg) (va : Reg) (vb : Reg) : Statement (.vmrglh vd va vb) :=
  of_field (k := .vector) (v := 4) rfl (wordVX_fields ..).1 (by decide)

theorem vpkswus (vd : Reg) (va : Reg) (vb : Reg) : Statement (.vpkswus vd va vb) :=
  of_field (k := .vector) (v := 4) rfl (wordVX_fields ..).1 (by decide)

theorem vaddcuw (vd : Reg) (va : Reg) (vb : Reg) : Statement (.vaddcuw vd va vb) :=
  of_field (k := .vector) (v := 4) rfl (wordVX_fields ..).1 (by decide)

theorem vmaxsw (vd : Reg) (va : Reg) (vb : Reg) : Statement (.vmaxsw vd va vb) :=
  of_field (k := .vector) (v := 4) rfl (wordVX_fields ..).1 (by decide)

theorem vslw (vd : Reg) (va : Reg) (vb : Reg) : Statement (.vslw vd va vb) :=
  of_field (k := .vector) (v := 4) rfl (wordVX_fields ..).1 (by decide)

theorem vmrglw (vd : Reg) (va : Reg) (vb : Reg) : Statement (.vmrglw vd va vb) :=
  of_field (k := .vector) (v := 4) rfl (wordVX_fields ..).1 (by decide)

theorem vpkshss (vd : Reg) (va : Reg) (vb : Reg) : Statement (.vpkshss vd va vb) :=
  of_field (k := .vector) (v := 4) rfl (wordVX_fields ..).1 (by decide)

theorem vsl (vd : Reg) (va : Reg) (vb : Reg) : Statement (.vsl vd va vb) :=
  of_field (k := .vector) (v := 4) rfl (wordVX_fields ..).1 (by decide)

theorem vpkswss (vd : Reg) (va : Reg) (vb : Reg) : Statement (.vpkswss vd va vb) :=
  of_field (k := .vector) (v := 4) rfl (wordVX_fields ..).1 (by decide)

theorem vaddubs (vd : Reg) (va : Reg) (vb : Reg) : Statement (.vaddubs vd va vb) :=
  of_field (k := .vector) (v := 4) rfl (wordVX_fields ..).1 (by decide)

theorem vminub (vd : Reg) (va : Reg) (vb : Reg) : Statement (.vminub vd va vb) :=
  of_field (k := .vector) (v := 4) rfl (wordVX_fields ..).1 (by decide)

theorem vsrb (vd : Reg) (va : Reg) (vb : Reg) : Statement (.vsrb vd va vb) :=
  of_field (k := .vector) (v := 4) rfl (wordVX_fields ..).1 (by decide)

theorem vmuleub (vd : Reg) (va : Reg) (vb : Reg) : Statement (.vmuleub vd va vb) :=
  of_field (k := .vector) (v := 4) rfl (wordVX_fields ..).1 (by decide)

theorem vadduhs (vd : Reg) (va : Reg) (vb : Reg) : Statement (.vadduhs vd va vb) :=
  of_field (k := .vector) (v := 4) rfl (wordVX_fields ..).1 (by decide)

theorem vminuh (vd : Reg) (va : Reg) (vb : Reg) : Statement (.vminuh vd va vb) :=
  of_field (k := .vector) (v := 4) rfl (wordVX_fields ..).1 (by decide)

theorem vsrh (vd : Reg) (va : Reg) (vb : Reg) : Statement (.vsrh vd va vb) :=
  of_field (k := .vector) (v := 4) rfl (wordVX_fields ..).1 (by decide)

theorem vmuleuh (vd : Reg) (va : Reg) (vb : Reg) : Statement (.vmuleuh vd va vb) :=
  of_field (k := .vector) (v := 4) rfl (wordVX_fields ..).1 (by decide)

theorem vadduws (vd : Reg) (va : Reg) (vb : Reg) : Statement (.vadduws vd va vb) :=
  of_field (k := .vector) (v := 4) rfl (wordVX_fields ..).1 (by decide)

theorem vminuw (vd : Reg) (va : Reg) (vb : Reg) : Statement (.vminuw vd va vb) :=
  of_field (k := .vector) (v := 4) rfl (wordVX_fields ..).1 (by decide)

theorem vsrw (vd : Reg) (va : Reg) (vb : Reg) : Statement (.vsrw vd va vb) :=
  of_field (k := .vector) (v := 4) rfl (wordVX_fields ..).1 (by decide)

theorem vsr (vd : Reg) (va : Reg) (vb : Reg) : Statement (.vsr vd va vb) :=
  of_field (k := .vector) (v := 4) rfl (wordVX_fields ..).1 (by decide)

theorem vaddsbs (vd : Reg) (va : Reg) (vb : Reg) : Statement (.vaddsbs vd va vb) :=
  of_field (k := .vector) (v := 4) rfl (wordVX_fields ..).1 (by decide)

theorem vminsb (vd : Reg) (va : Reg) (vb : Reg) : Statement (.vminsb vd va vb) :=
  of_field (k := .vector) (v := 4) rfl (wordVX_fields ..).1 (by decide)

theorem vsrab (vd : Reg) (va : Reg) (vb : Reg) : Statement (.vsrab vd va vb) :=
  of_field (k := .vector) (v := 4) rfl (wordVX_fields ..).1 (by decide)

theorem vmulesb (vd : Reg) (va : Reg) (vb : Reg) : Statement (.vmulesb vd va vb) :=
  of_field (k := .vector) (v := 4) rfl (wordVX_fields ..).1 (by decide)

theorem vpkpx (vd : Reg) (va : Reg) (vb : Reg) : Statement (.vpkpx vd va vb) :=
  of_field (k := .vector) (v := 4) rfl (wordVX_fields ..).1 (by decide)

theorem vaddshs (vd : Reg) (va : Reg) (vb : Reg) : Statement (.vaddshs vd va vb) :=
  of_field (k := .vector) (v := 4) rfl (wordVX_fields ..).1 (by decide)

theorem vminsh (vd : Reg) (va : Reg) (vb : Reg) : Statement (.vminsh vd va vb) :=
  of_field (k := .vector) (v := 4) rfl (wordVX_fields ..).1 (by decide)

theorem vsrah (vd : Reg) (va : Reg) (vb : Reg) : Statement (.vsrah vd va vb) :=
  of_field (k := .vector) (v := 4) rfl (wordVX_fields ..).1 (by decide)

theorem vmulesh (vd : Reg) (va : Reg) (vb : Reg) : Statement (.vmulesh vd va vb) :=
  of_field (k := .vector) (v := 4) rfl (wordVX_fields ..).1 (by decide)

theorem vaddsws (vd : Reg) (va : Reg) (vb : Reg) : Statement (.vaddsws vd va vb) :=
  of_field (k := .vector) (v := 4) rfl (wordVX_fields ..).1 (by decide)

theorem vminsw (vd : Reg) (va : Reg) (vb : Reg) : Statement (.vminsw vd va vb) :=
  of_field (k := .vector) (v := 4) rfl (wordVX_fields ..).1 (by decide)

theorem vsraw (vd : Reg) (va : Reg) (vb : Reg) : Statement (.vsraw vd va vb) :=
  of_field (k := .vector) (v := 4) rfl (wordVX_fields ..).1 (by decide)

theorem vsububm (vd : Reg) (va : Reg) (vb : Reg) : Statement (.vsububm vd va vb) :=
  of_field (k := .vector) (v := 4) rfl (wordVX_fields ..).1 (by decide)

theorem vavgub (vd : Reg) (va : Reg) (vb : Reg) : Statement (.vavgub vd va vb) :=
  of_field (k := .vector) (v := 4) rfl (wordVX_fields ..).1 (by decide)

theorem vabsdub (vd : Reg) (va : Reg) (vb : Reg) : Statement (.vabsdub vd va vb) :=
  of_field (k := .vector) (v := 4) rfl (wordVX_fields ..).1 (by decide)

theorem vand (vd : Reg) (va : Reg) (vb : Reg) : Statement (.vand vd va vb) :=
  of_field (k := .vector) (v := 4) rfl (wordVX_fields ..).1 (by decide)

theorem vmaxfp (vd : Reg) (va : Reg) (vb : Reg) : Statement (.vmaxfp vd va vb) :=
  of_field (k := .vector) (v := 4) rfl (wordVX_fields ..).1 (by decide)

theorem vslo (vd : Reg) (va : Reg) (vb : Reg) : Statement (.vslo vd va vb) :=
  of_field (k := .vector) (v := 4) rfl (wordVX_fields ..).1 (by decide)

theorem vsubuhm (vd : Reg) (va : Reg) (vb : Reg) : Statement (.vsubuhm vd va vb) :=
  of_field (k := .vector) (v := 4) rfl (wordVX_fields ..).1 (by decide)

theorem vavguh (vd : Reg) (va : Reg) (vb : Reg) : Statement (.vavguh vd va vb) :=
  of_field (k := .vector) (v := 4) rfl (wordVX_fields ..).1 (by decide)

theorem vabsduh (vd : Reg) (va : Reg) (vb : Reg) : Statement (.vabsduh vd va vb) :=
  of_field (k := .vector) (v := 4) rfl (wordVX_fields ..).1 (by decide)

theorem vandc (vd : Reg) (va : Reg) (vb : Reg) : Statement (.vandc vd va vb) :=
  of_field (k := .vector) (v := 4) rfl (wordVX_fields ..).1 (by decide)

theorem vminfp (vd : Reg) (va : Reg) (vb : Reg) : Statement (.vminfp vd va vb) :=
  of_field (k := .vector) (v := 4) rfl (wordVX_fields ..).1 (by decide)

theorem vsro (vd : Reg) (va : Reg) (vb : Reg) : Statement (.vsro vd va vb) :=
  of_field (k := .vector) (v := 4) rfl (wordVX_fields ..).1 (by decide)

theorem vsubuwm (vd : Reg) (va : Reg) (vb : Reg) : Statement (.vsubuwm vd va vb) :=
  of_field (k := .vector) (v := 4) rfl (wordVX_fields ..).1 (by decide)

theorem vavguw (vd : Reg) (va : Reg) (vb : Reg) : Statement (.vavguw vd va vb) :=
  of_field (k := .vector) (v := 4) rfl (wordVX_fields ..).1 (by decide)

theorem vabsduw (vd : Reg) (va : Reg) (vb : Reg) : Statement (.vabsduw vd va vb) :=
  of_field (k := .vector) (v := 4) rfl (wordVX_fields ..).1 (by decide)

theorem vor (vd : Reg) (va : Reg) (vb : Reg) : Statement (.vor vd va vb) :=
  of_field (k := .vector) (v := 4) rfl (wordVX_fields ..).1 (by decide)

theorem vxor (vd : Reg) (va : Reg) (vb : Reg) : Statement (.vxor vd va vb) :=
  of_field (k := .vector) (v := 4) rfl (wordVX_fields ..).1 (by decide)

theorem vavgsb (vd : Reg) (va : Reg) (vb : Reg) : Statement (.vavgsb vd va vb) :=
  of_field (k := .vector) (v := 4) rfl (wordVX_fields ..).1 (by decide)

theorem vnor (vd : Reg) (va : Reg) (vb : Reg) : Statement (.vnor vd va vb) :=
  of_field (k := .vector) (v := 4) rfl (wordVX_fields ..).1 (by decide)

theorem vavgsh (vd : Reg) (va : Reg) (vb : Reg) : Statement (.vavgsh vd va vb) :=
  of_field (k := .vector) (v := 4) rfl (wordVX_fields ..).1 (by decide)

theorem vsubcuw (vd : Reg) (va : Reg) (vb : Reg) : Statement (.vsubcuw vd va vb) :=
  of_field (k := .vector) (v := 4) rfl (wordVX_fields ..).1 (by decide)

theorem vavgsw (vd : Reg) (va : Reg) (vb : Reg) : Statement (.vavgsw vd va vb) :=
  of_field (k := .vector) (v := 4) rfl (wordVX_fields ..).1 (by decide)

theorem vsububs (vd : Reg) (va : Reg) (vb : Reg) : Statement (.vsububs vd va vb) :=
  of_field (k := .vector) (v := 4) rfl (wordVX_fields ..).1 (by decide)

theorem vsum4ubs (vd : Reg) (va : Reg) (vb : Reg) : Statement (.vsum4ubs vd va vb) :=
  of_field (k := .vector) (v := 4) rfl (wordVX_fields ..).1 (by decide)

theorem vsubuhs (vd : Reg) (va : Reg) (vb : Reg) : Statement (.vsubuhs vd va vb) :=
  of_field (k := .vector) (v := 4) rfl (wordVX_fields ..).1 (by decide)

theorem vsum4shs (vd : Reg) (va : Reg) (vb : Reg) : Statement (.vsum4shs vd va vb) :=
  of_field (k := .vector) (v := 4) rfl (wordVX_fields ..).1 (by decide)

theorem vsubuws (vd : Reg) (va : Reg) (vb : Reg) : Statement (.vsubuws vd va vb) :=
  of_field (k := .vector) (v := 4) rfl (wordVX_fields ..).1 (by decide)

theorem vsum2sws (vd : Reg) (va : Reg) (vb : Reg) : Statement (.vsum2sws vd va vb) :=
  of_field (k := .vector) (v := 4) rfl (wordVX_fields ..).1 (by decide)

theorem vsubsbs (vd : Reg) (va : Reg) (vb : Reg) : Statement (.vsubsbs vd va vb) :=
  of_field (k := .vector) (v := 4) rfl (wordVX_fields ..).1 (by decide)

theorem vsum4sbs (vd : Reg) (va : Reg) (vb : Reg) : Statement (.vsum4sbs vd va vb) :=
  of_field (k := .vector) (v := 4) rfl (wordVX_fields ..).1 (by decide)

theorem vsubshs (vd : Reg) (va : Reg) (vb : Reg) : Statement (.vsubshs vd va vb) :=
  of_field (k := .vector) (v := 4) rfl (wordVX_fields ..).1 (by decide)

theorem vsubsws (vd : Reg) (va : Reg) (vb : Reg) : Statement (.vsubsws vd va vb) :=
  of_field (k := .vector) (v := 4) rfl (wordVX_fields ..).1 (by decide)

theorem vsumsws (vd : Reg) (va : Reg) (vb : Reg) : Statement (.vsumsws vd va vb) :=
  of_field (k := .vector) (v := 4) rfl (wordVX_fields ..).1 (by decide)

theorem vrefp (vd : Reg) (vb : Reg) : Statement (.vrefp vd vb) :=
  of_field (k := .vector) (v := 4) rfl (wordVX_fields ..).1 (by decide)

theorem vrsqrtefp (vd : Reg) (vb : Reg) : Statement (.vrsqrtefp vd vb) :=
  of_field (k := .vector) (v := 4) rfl (wordVX_fields ..).1 (by decide)

theorem vexptefp (vd : Reg) (vb : Reg) : Statement (.vexptefp vd vb) :=
  of_field (k := .vector) (v := 4) rfl (wordVX_fields ..).1 (by decide)

theorem vlogefp (vd : Reg) (vb : Reg) : Statement (.vlogefp vd vb) :=
  of_field (k := .vector) (v := 4) rfl (wordVX_fields ..).1 (by decide)

theorem vrfin (vd : Reg) (vb : Reg) : Statement (.vrfin vd vb) :=
  of_field (k := .vector) (v := 4) rfl (wordVX_fields ..).1 (by decide)

theorem vrfiz (vd : Reg) (vb : Reg) : Statement (.vrfiz vd vb) :=
  of_field (k := .vector) (v := 4) rfl (wordVX_fields ..).1 (by decide)

theorem vrfip (vd : Reg) (vb : Reg) : Statement (.vrfip vd vb) :=
  of_field (k := .vector) (v := 4) rfl (wordVX_fields ..).1 (by decide)

theorem vrfim (vd : Reg) (vb : Reg) : Statement (.vrfim vd vb) :=
  of_field (k := .vector) (v := 4) rfl (wordVX_fields ..).1 (by decide)

theorem vupkhsb (vd : Reg) (vb : Reg) : Statement (.vupkhsb vd vb) :=
  of_field (k := .vector) (v := 4) rfl (wordVX_fields ..).1 (by decide)

theorem vupkhsh (vd : Reg) (vb : Reg) : Statement (.vupkhsh vd vb) :=
  of_field (k := .vector) (v := 4) rfl (wordVX_fields ..).1 (by decide)

theorem vupklsb (vd : Reg) (vb : Reg) : Statement (.vupklsb vd vb) :=
  of_field (k := .vector) (v := 4) rfl (wordVX_fields ..).1 (by decide)

theorem vupklsh (vd : Reg) (vb : Reg) : Statement (.vupklsh vd vb) :=
  of_field (k := .vector) (v := 4) rfl (wordVX_fields ..).1 (by decide)

theorem vupkhpx (vd : Reg) (vb : Reg) : Statement (.vupkhpx vd vb) :=
  of_field (k := .vector) (v := 4) rfl (wordVX_fields ..).1 (by decide)

theorem vupklpx (vd : Reg) (vb : Reg) : Statement (.vupklpx vd vb) :=
  of_field (k := .vector) (v := 4) rfl (wordVX_fields ..).1 (by decide)

theorem vcfux (vd : Reg) (vb : Reg) (uimm : BitVec 5) : Statement (.vcfux vd vb uimm) :=
  of_field (k := .vector) (v := 4) rfl (wordVX_fields ..).1 (by decide)

theorem vcfsx (vd : Reg) (vb : Reg) (uimm : BitVec 5) : Statement (.vcfsx vd vb uimm) :=
  of_field (k := .vector) (v := 4) rfl (wordVX_fields ..).1 (by decide)

theorem vctuxs (vd : Reg) (vb : Reg) (uimm : BitVec 5) : Statement (.vctuxs vd vb uimm) :=
  of_field (k := .vector) (v := 4) rfl (wordVX_fields ..).1 (by decide)

theorem vctsxs (vd : Reg) (vb : Reg) (uimm : BitVec 5) : Statement (.vctsxs vd vb uimm) :=
  of_field (k := .vector) (v := 4) rfl (wordVX_fields ..).1 (by decide)

theorem vspltb (vd : Reg) (vb : Reg) (uimm : BitVec 4) : Statement (.vspltb vd vb uimm) :=
  of_field (k := .vector) (v := 4) rfl (wordVX_fields ..).1 (by decide)

theorem vsplth (vd : Reg) (vb : Reg) (uimm : BitVec 3) : Statement (.vsplth vd vb uimm) :=
  of_field (k := .vector) (v := 4) rfl (wordVX_fields ..).1 (by decide)

theorem vspltw (vd : Reg) (vb : Reg) (uimm : BitVec 2) : Statement (.vspltw vd vb uimm) :=
  of_field (k := .vector) (v := 4) rfl (wordVX_fields ..).1 (by decide)

theorem vspltisb (vd : Reg) (simm : BitVec 5) : Statement (.vspltisb vd simm) :=
  of_field (k := .vector) (v := 4) rfl (wordVX_fields ..).1 (by decide)

theorem vspltish (vd : Reg) (simm : BitVec 5) : Statement (.vspltish vd simm) :=
  of_field (k := .vector) (v := 4) rfl (wordVX_fields ..).1 (by decide)

theorem vspltisw (vd : Reg) (simm : BitVec 5) : Statement (.vspltisw vd simm) :=
  of_field (k := .vector) (v := 4) rfl (wordVX_fields ..).1 (by decide)

theorem mfvscr (vd : Reg) : Statement (.mfvscr vd) :=
  of_field (k := .vector) (v := 4) rfl (wordVX_fields ..).1 (by decide)

theorem mtvscr (vb : Reg) : Statement (.mtvscr vb) :=
  of_field (k := .vector) (v := 4) rfl (wordVX_fields ..).1 (by decide)

theorem vcmpequb (vd : Reg) (va : Reg) (vb : Reg) (rc : Bool) : Statement (.vcmpequb vd va vb rc) :=
  of_field (k := .vector) (v := 4) rfl (wordVXR_fields ..).1 (by decide)

theorem vcmpequh (vd : Reg) (va : Reg) (vb : Reg) (rc : Bool) : Statement (.vcmpequh vd va vb rc) :=
  of_field (k := .vector) (v := 4) rfl (wordVXR_fields ..).1 (by decide)

theorem vcmpequw (vd : Reg) (va : Reg) (vb : Reg) (rc : Bool) : Statement (.vcmpequw vd va vb rc) :=
  of_field (k := .vector) (v := 4) rfl (wordVXR_fields ..).1 (by decide)

theorem vcmpeqfp (vd : Reg) (va : Reg) (vb : Reg) (rc : Bool) : Statement (.vcmpeqfp vd va vb rc) :=
  of_field (k := .vector) (v := 4) rfl (wordVXR_fields ..).1 (by decide)

theorem vcmpgefp (vd : Reg) (va : Reg) (vb : Reg) (rc : Bool) : Statement (.vcmpgefp vd va vb rc) :=
  of_field (k := .vector) (v := 4) rfl (wordVXR_fields ..).1 (by decide)

theorem vcmpgtub (vd : Reg) (va : Reg) (vb : Reg) (rc : Bool) : Statement (.vcmpgtub vd va vb rc) :=
  of_field (k := .vector) (v := 4) rfl (wordVXR_fields ..).1 (by decide)

theorem vcmpgtuh (vd : Reg) (va : Reg) (vb : Reg) (rc : Bool) : Statement (.vcmpgtuh vd va vb rc) :=
  of_field (k := .vector) (v := 4) rfl (wordVXR_fields ..).1 (by decide)

theorem vcmpgtuw (vd : Reg) (va : Reg) (vb : Reg) (rc : Bool) : Statement (.vcmpgtuw vd va vb rc) :=
  of_field (k := .vector) (v := 4) rfl (wordVXR_fields ..).1 (by decide)

theorem vcmpgtfp (vd : Reg) (va : Reg) (vb : Reg) (rc : Bool) : Statement (.vcmpgtfp vd va vb rc) :=
  of_field (k := .vector) (v := 4) rfl (wordVXR_fields ..).1 (by decide)

theorem vcmpgtsb (vd : Reg) (va : Reg) (vb : Reg) (rc : Bool) : Statement (.vcmpgtsb vd va vb rc) :=
  of_field (k := .vector) (v := 4) rfl (wordVXR_fields ..).1 (by decide)

theorem vcmpgtsh (vd : Reg) (va : Reg) (vb : Reg) (rc : Bool) : Statement (.vcmpgtsh vd va vb rc) :=
  of_field (k := .vector) (v := 4) rfl (wordVXR_fields ..).1 (by decide)

theorem vcmpgtsw (vd : Reg) (va : Reg) (vb : Reg) (rc : Bool) : Statement (.vcmpgtsw vd va vb rc) :=
  of_field (k := .vector) (v := 4) rfl (wordVXR_fields ..).1 (by decide)

theorem vcmpbfp (vd : Reg) (va : Reg) (vb : Reg) (rc : Bool) : Statement (.vcmpbfp vd va vb rc) :=
  of_field (k := .vector) (v := 4) rfl (wordVXR_fields ..).1 (by decide)

theorem vmhaddshs (vd : Reg) (va : Reg) (vb : Reg) (vc : Reg) : Statement (.vmhaddshs vd va vb vc) :=
  of_field (k := .vector) (v := 4) rfl (wordVA_fields ..).1 (by decide)

theorem vmhraddshs (vd : Reg) (va : Reg) (vb : Reg) (vc : Reg) : Statement (.vmhraddshs vd va vb vc) :=
  of_field (k := .vector) (v := 4) rfl (wordVA_fields ..).1 (by decide)

theorem vmladduhm (vd : Reg) (va : Reg) (vb : Reg) (vc : Reg) : Statement (.vmladduhm vd va vb vc) :=
  of_field (k := .vector) (v := 4) rfl (wordVA_fields ..).1 (by decide)

theorem vmsumubm (vd : Reg) (va : Reg) (vb : Reg) (vc : Reg) : Statement (.vmsumubm vd va vb vc) :=
  of_field (k := .vector) (v := 4) rfl (wordVA_fields ..).1 (by decide)

theorem vmsummbm (vd : Reg) (va : Reg) (vb : Reg) (vc : Reg) : Statement (.vmsummbm vd va vb vc) :=
  of_field (k := .vector) (v := 4) rfl (wordVA_fields ..).1 (by decide)

theorem vmsumuhm (vd : Reg) (va : Reg) (vb : Reg) (vc : Reg) : Statement (.vmsumuhm vd va vb vc) :=
  of_field (k := .vector) (v := 4) rfl (wordVA_fields ..).1 (by decide)

theorem vmsumuhs (vd : Reg) (va : Reg) (vb : Reg) (vc : Reg) : Statement (.vmsumuhs vd va vb vc) :=
  of_field (k := .vector) (v := 4) rfl (wordVA_fields ..).1 (by decide)

theorem vmsumshm (vd : Reg) (va : Reg) (vb : Reg) (vc : Reg) : Statement (.vmsumshm vd va vb vc) :=
  of_field (k := .vector) (v := 4) rfl (wordVA_fields ..).1 (by decide)

theorem vmsumshs (vd : Reg) (va : Reg) (vb : Reg) (vc : Reg) : Statement (.vmsumshs vd va vb vc) :=
  of_field (k := .vector) (v := 4) rfl (wordVA_fields ..).1 (by decide)

theorem vsel (vd : Reg) (va : Reg) (vb : Reg) (vc : Reg) : Statement (.vsel vd va vb vc) :=
  of_field (k := .vector) (v := 4) rfl (wordVA_fields ..).1 (by decide)

theorem vperm (vd : Reg) (va : Reg) (vb : Reg) (vc : Reg) : Statement (.vperm vd va vb vc) :=
  of_field (k := .vector) (v := 4) rfl (wordVA_fields ..).1 (by decide)

theorem vmaddfp (vd : Reg) (va : Reg) (vb : Reg) (vc : Reg) : Statement (.vmaddfp vd va vb vc) :=
  of_field (k := .vector) (v := 4) rfl (wordVA_fields ..).1 (by decide)

theorem vnmsubfp (vd : Reg) (va : Reg) (vb : Reg) (vc : Reg) : Statement (.vnmsubfp vd va vb vc) :=
  of_field (k := .vector) (v := 4) rfl (wordVA_fields ..).1 (by decide)

theorem vsldoi (vd : Reg) (va : Reg) (vb : Reg) (shb : BitVec 4) : Statement (.vsldoi vd va vb shb) :=
  of_field (k := .vector) (v := 4) rfl (wordVA_fields ..).1 (by decide)

theorem addi (rd : Reg) (ra : Reg) (simm : BitVec 16) : Statement (.addi rd ra simm) :=
  of_field (k := .base) (v := 14) rfl (wordD_fields ..).1 (by decide)

theorem addis (rd : Reg) (ra : Reg) (simm : BitVec 16) : Statement (.addis rd ra simm) :=
  of_field (k := .base) (v := 15) rfl (wordD_fields ..).1 (by decide)

theorem bc (bo : BitVec 5) (bi : BitVec 5) (bd : BitVec 14) : Statement (.bc bo bi bd) :=
  of_field (k := .base) (v := 16) rfl (wordB_fields ..).1 (by decide)

theorem b (li : BitVec 24) : Statement (.b li) :=
  of_field (k := .base) (v := 18) rfl (wordI_fields ..).1 (by decide)

theorem ori (ra : Reg) (rs : Reg) (uimm : BitVec 16) : Statement (.ori ra rs uimm) :=
  of_field (k := .base) (v := 24) rfl (wordD_fields ..).1 (by decide)

theorem srawi (ra : Reg) (rs : Reg) (sh : BitVec 5) : Statement (.srawi ra rs sh) :=
  of_field (k := .base) (v := 31) rfl (wordX_fields ..).1 (by decide)

theorem mfspr (rd : Reg) (spr : BitVec 10) : Statement (.mfspr rd spr) :=
  of_field (k := .base) (v := 31) rfl (wordX_fields ..).1 (by decide)

theorem mtspr (spr : BitVec 10) (rs : Reg) : Statement (.mtspr spr rs) :=
  of_field (k := .base) (v := 31) rfl (wordX_fields ..).1 (by decide)

theorem rfi : Statement (.rfi) :=
  of_field (k := .base) (v := 19) rfl (wordXL_fields ..).1 (by decide)

end Sys2Proof.Laws.PrimaryOpcode
end

