-- ==== Sys2Proof/Tests/Slice0.lean ====
section
/-! SUPPORT. Tests on fixed values, and for each statement with hypotheses a theorem that some concrete state meets them.
Expected values come from the spec: the encodings from spec/opcode_table.json, the results from the vectors of
95_test_vectors.md and 96_test_vectors_derived.md and from the examples of the rules. -/

namespace Sys2Proof.Tests

open Sys2Proof Sys2Proof.Machine

-- One theorem at a time: the kernel evaluations here would otherwise each hold a thread.
set_option Elab.async false

/-! ### WellFormed -/

theorem test_wellFormed_refuses_mfspr : WellFormed (.mfspr 3 5) = false ∧ WellFormed (.mfspr 3 257) = false := by decide

theorem test_wellFormed_refuses_mtspr : WellFormed (.mtspr 5 3) = false ∧ WellFormed (.mtspr 530 3) = false := by decide

theorem test_wellFormed_accepts :
    [8, 9, 26, 27, 256, 528, 529].all (fun n => WellFormed (.mfspr 3 n) && WellFormed (.mtspr n 3)) = true := by decide

/-! ### Decoding: every row of the opcode table, its word written bit by bit -/

/-- The X-form loads (rules R82, R96). -/
theorem test_decode_loads : ∀ p ∈ ([
    (0b011111_10011_01010_10101_0000000110_0#32, .lvsl 19 10 21),
    (0b011111_10011_01010_10101_0000000111_0#32, .lvebx 19 10 21),
    (0b011111_10011_01010_10101_0000100110_0#32, .lvsr 19 10 21),
    (0b011111_10011_01010_10101_0000100111_0#32, .lvehx 19 10 21),
    (0b011111_10011_01010_10101_0001000111_0#32, .lvewx 19 10 21),
    (0b011111_10011_01010_10101_0001100111_0#32, .lvx 19 10 21),
    (0b011111_10011_01010_10101_0100000101_0#32, .lvexbx 19 10 21),
    (0b011111_10011_01010_10101_0100000111_0#32, .lvepxl 19 10 21),
    (0b011111_10011_01010_10101_0100100101_0#32, .lvexhx 19 10 21),
    (0b011111_10011_01010_10101_0100100111_0#32, .lvepx 19 10 21),
    (0b011111_10011_01010_10101_0101000101_0#32, .lvexwx 19 10 21),
    (0b011111_10011_01010_10101_0101100111_0#32, .lvxl 19 10 21),
    (0b011111_10011_01010_10101_1000100101_0#32, .lvtrx 19 10 21),
    (0b011111_10011_01010_10101_1001000101_0#32, .lvtlx 19 10 21),
    (0b011111_10011_01010_10101_1001100101_0#32, .lvswx 19 10 21),
    (0b011111_10011_01010_10101_1100000101_0#32, .lvsm 19 10 21),
    (0b011111_10011_01010_10101_1100100101_0#32, .lvtrxl 19 10 21),
    (0b011111_10011_01010_10101_1101000101_0#32, .lvtlxl 19 10 21),
    (0b011111_10011_01010_10101_1101100101_0#32, .lvswxl 19 10 21)] : List (Word × Instr)),
    decode p.1 = .ok p.2 := by
  decide +kernel

/-- The X-form stores (rules R82, R96). -/
theorem test_decode_stores : ∀ p ∈ ([
    (0b011111_10011_01010_10101_0010000111_0#32, .stvebx 19 10 21),
    (0b011111_10011_01010_10101_0010100111_0#32, .stvehx 19 10 21),
    (0b011111_10011_01010_10101_0011000111_0#32, .stvewx 19 10 21),
    (0b011111_10011_01010_10101_0011100111_0#32, .stvx 19 10 21),
    (0b011111_10011_01010_10101_0110000101_0#32, .stvexbx 19 10 21),
    (0b011111_10011_01010_10101_0110100101_0#32, .stvexhx 19 10 21),
    (0b011111_10011_01010_10101_0111000101_0#32, .stvexwx 19 10 21),
    (0b011111_10011_01010_10101_0111100111_0#32, .stvxl 19 10 21),
    (0b011111_10011_01010_10101_1010100101_0#32, .stvfrx 19 10 21),
    (0b011111_10011_01010_10101_1011000101_0#32, .stvflx 19 10 21),
    (0b011111_10011_01010_10101_1011100101_0#32, .stvswx 19 10 21),
    (0b011111_10011_01010_10101_1100000111_0#32, .stvepxl 19 10 21),
    (0b011111_10011_01010_10101_1100100111_0#32, .stvepx 19 10 21),
    (0b011111_10011_01010_10101_1110100101_0#32, .stvfrxl 19 10 21),
    (0b011111_10011_01010_10101_1111000101_0#32, .stvflxl 19 10 21),
    (0b011111_10011_01010_10101_1111100101_0#32, .stvswxl 19 10 21)] : List (Word × Instr)),
    decode p.1 = .ok p.2 := by
  decide +kernel

/-- The integer splats and the stream rows (rules R87, R96). -/
theorem test_decode_moves_streams : ∀ p ∈ ([
    (0b011111_10011_01010_10101_0000101110_0#32, .mviwsplt 19 10 21),
    (0b011111_10011_01010_10101_0001101110_0#32, .mvidsplt 19 10 21),
    (0b011111_0_00_10_01010_10101_0101010110_0#32, .dst 2 10 21),
    (0b011111_1_00_10_01010_10101_0101010110_0#32, .dstt 2 10 21),
    (0b011111_0_00_10_01010_10101_0101110110_0#32, .dstst 2 10 21),
    (0b011111_1_00_10_01010_10101_0101110110_0#32, .dststt 2 10 21),
    (0b011111_0_00_10_0000000000_1100110110_0#32, .dss 2),
    (0b011111_1_00_10_0000000000_1100110110_0#32, .dssall 2)] : List (Word × Instr)),
    decode p.1 = .ok p.2 := by
  decide +kernel

/-- VX-form rows of two sources (rules R83, R97). -/
theorem test_decode_vx1 : ∀ p ∈ ([
    (0b000100_10011_01010_10101_00000000000#32, .vaddubm 19 10 21),
    (0b000100_10011_01010_10101_00000000010#32, .vmaxub 19 10 21),
    (0b000100_10011_01010_10101_00000000100#32, .vrlb 19 10 21),
    (0b000100_10011_01010_10101_00000001000#32, .vmuloub 19 10 21),
    (0b000100_10011_01010_10101_00000001010#32, .vaddfp 19 10 21),
    (0b000100_10011_01010_10101_00000001100#32, .vmrghb 19 10 21),
    (0b000100_10011_01010_10101_00000001110#32, .vpkuhum 19 10 21),
    (0b000100_10011_01010_10101_00001000000#32, .vadduhm 19 10 21),
    (0b000100_10011_01010_10101_00001000010#32, .vmaxuh 19 10 21),
    (0b000100_10011_01010_10101_00001000100#32, .vrlh 19 10 21),
    (0b000100_10011_01010_10101_00001001000#32, .vmulouh 19 10 21),
    (0b000100_10011_01010_10101_00001001010#32, .vsubfp 19 10 21),
    (0b000100_10011_01010_10101_00001001100#32, .vmrghh 19 10 21),
    (0b000100_10011_01010_10101_00001001110#32, .vpkuwum 19 10 21),
    (0b000100_10011_01010_10101_00010000000#32, .vadduwm 19 10 21),
    (0b000100_10011_01010_10101_00010000010#32, .vmaxuw 19 10 21),
    (0b000100_10011_01010_10101_00010000100#32, .vrlw 19 10 21),
    (0b000100_10011_01010_10101_00010001100#32, .vmrghw 19 10 21),
    (0b000100_10011_01010_10101_00010001110#32, .vpkuhus 19 10 21),
    (0b000100_10011_01010_10101_00011001110#32, .vpkuwus 19 10 21),
    (0b000100_10011_01010_10101_00100000010#32, .vmaxsb 19 10 21),
    (0b000100_10011_01010_10101_00100000100#32, .vslb 19 10 21),
    (0b000100_10011_01010_10101_00100001000#32, .vmulosb 19 10 21),
    (0b000100_10011_01010_10101_00100001100#32, .vmrglb 19 10 21)] : List (Word × Instr)),
    decode p.1 = .ok p.2 := by
  decide +kernel

/-- VX-form rows of two sources (rules R83, R97). -/
theorem test_decode_vx2 : ∀ p ∈ ([
    (0b000100_10011_01010_10101_00100001110#32, .vpkshus 19 10 21),
    (0b000100_10011_01010_10101_00101000010#32, .vmaxsh 19 10 21),
    (0b000100_10011_01010_10101_00101000100#32, .vslh 19 10 21),
    (0b000100_10011_01010_10101_00101001000#32, .vmulosh 19 10 21),
    (0b000100_10011_01010_10101_00101001100#32, .vmrglh 19 10 21),
    (0b000100_10011_01010_10101_00101001110#32, .vpkswus 19 10 21),
    (0b000100_10011_01010_10101_00110000000#32, .vaddcuw 19 10 21),
    (0b000100_10011_01010_10101_00110000010#32, .vmaxsw 19 10 21),
    (0b000100_10011_01010_10101_00110000100#32, .vslw 19 10 21),
    (0b000100_10011_01010_10101_00110001100#32, .vmrglw 19 10 21),
    (0b000100_10011_01010_10101_00110001110#32, .vpkshss 19 10 21),
    (0b000100_10011_01010_10101_00111000100#32, .vsl 19 10 21),
    (0b000100_10011_01010_10101_00111001110#32, .vpkswss 19 10 21),
    (0b000100_10011_01010_10101_01000000000#32, .vaddubs 19 10 21),
    (0b000100_10011_01010_10101_01000000010#32, .vminub 19 10 21),
    (0b000100_10011_01010_10101_01000000100#32, .vsrb 19 10 21),
    (0b000100_10011_01010_10101_01000001000#32, .vmuleub 19 10 21),
    (0b000100_10011_01010_10101_01001000000#32, .vadduhs 19 10 21),
    (0b000100_10011_01010_10101_01001000010#32, .vminuh 19 10 21),
    (0b000100_10011_01010_10101_01001000100#32, .vsrh 19 10 21),
    (0b000100_10011_01010_10101_01001001000#32, .vmuleuh 19 10 21),
    (0b000100_10011_01010_10101_01010000000#32, .vadduws 19 10 21),
    (0b000100_10011_01010_10101_01010000010#32, .vminuw 19 10 21),
    (0b000100_10011_01010_10101_01010000100#32, .vsrw 19 10 21)] : List (Word × Instr)),
    decode p.1 = .ok p.2 := by
  decide +kernel

/-- VX-form rows of two sources (rules R83, R97). -/
theorem test_decode_vx3 : ∀ p ∈ ([
    (0b000100_10011_01010_10101_01011000100#32, .vsr 19 10 21),
    (0b000100_10011_01010_10101_01100000000#32, .vaddsbs 19 10 21),
    (0b000100_10011_01010_10101_01100000010#32, .vminsb 19 10 21),
    (0b000100_10011_01010_10101_01100000100#32, .vsrab 19 10 21),
    (0b000100_10011_01010_10101_01100001000#32, .vmulesb 19 10 21),
    (0b000100_10011_01010_10101_01100001110#32, .vpkpx 19 10 21),
    (0b000100_10011_01010_10101_01101000000#32, .vaddshs 19 10 21),
    (0b000100_10011_01010_10101_01101000010#32, .vminsh 19 10 21),
    (0b000100_10011_01010_10101_01101000100#32, .vsrah 19 10 21),
    (0b000100_10011_01010_10101_01101001000#32, .vmulesh 19 10 21),
    (0b000100_10011_01010_10101_01110000000#32, .vaddsws 19 10 21),
    (0b000100_10011_01010_10101_01110000010#32, .vminsw 19 10 21),
    (0b000100_10011_01010_10101_01110000100#32, .vsraw 19 10 21),
    (0b000100_10011_01010_10101_10000000000#32, .vsububm 19 10 21),
    (0b000100_10011_01010_10101_10000000010#32, .vavgub 19 10 21),
    (0b000100_10011_01010_10101_10000000011#32, .vabsdub 19 10 21),
    (0b000100_10011_01010_10101_10000000100#32, .vand 19 10 21),
    (0b000100_10011_01010_10101_10000001010#32, .vmaxfp 19 10 21),
    (0b000100_10011_01010_10101_10000001100#32, .vslo 19 10 21),
    (0b000100_10011_01010_10101_10001000000#32, .vsubuhm 19 10 21),
    (0b000100_10011_01010_10101_10001000010#32, .vavguh 19 10 21),
    (0b000100_10011_01010_10101_10001000011#32, .vabsduh 19 10 21),
    (0b000100_10011_01010_10101_10001000100#32, .vandc 19 10 21),
    (0b000100_10011_01010_10101_10001001010#32, .vminfp 19 10 21)] : List (Word × Instr)),
    decode p.1 = .ok p.2 := by
  decide +kernel

/-- VX-form rows of two sources (rules R83, R97). -/
theorem test_decode_vx4 : ∀ p ∈ ([
    (0b000100_10011_01010_10101_10001001100#32, .vsro 19 10 21),
    (0b000100_10011_01010_10101_10010000000#32, .vsubuwm 19 10 21),
    (0b000100_10011_01010_10101_10010000010#32, .vavguw 19 10 21),
    (0b000100_10011_01010_10101_10010000011#32, .vabsduw 19 10 21),
    (0b000100_10011_01010_10101_10010000100#32, .vor 19 10 21),
    (0b000100_10011_01010_10101_10011000100#32, .vxor 19 10 21),
    (0b000100_10011_01010_10101_10100000010#32, .vavgsb 19 10 21),
    (0b000100_10011_01010_10101_10100000100#32, .vnor 19 10 21),
    (0b000100_10011_01010_10101_10101000010#32, .vavgsh 19 10 21),
    (0b000100_10011_01010_10101_10110000000#32, .vsubcuw 19 10 21),
    (0b000100_10011_01010_10101_10110000010#32, .vavgsw 19 10 21),
    (0b000100_10011_01010_10101_11000000000#32, .vsububs 19 10 21),
    (0b000100_10011_01010_10101_11000001000#32, .vsum4ubs 19 10 21),
    (0b000100_10011_01010_10101_11001000000#32, .vsubuhs 19 10 21),
    (0b000100_10011_01010_10101_11001001000#32, .vsum4shs 19 10 21),
    (0b000100_10011_01010_10101_11010000000#32, .vsubuws 19 10 21),
    (0b000100_10011_01010_10101_11010001000#32, .vsum2sws 19 10 21),
    (0b000100_10011_01010_10101_11100000000#32, .vsubsbs 19 10 21),
    (0b000100_10011_01010_10101_11100001000#32, .vsum4sbs 19 10 21),
    (0b000100_10011_01010_10101_11101000000#32, .vsubshs 19 10 21),
    (0b000100_10011_01010_10101_11110000000#32, .vsubsws 19 10 21),
    (0b000100_10011_01010_10101_11110001000#32, .vsumsws 19 10 21)] : List (Word × Instr)),
    decode p.1 = .ok p.2 := by
  decide +kernel

/-- VX-form rows with a reserved field or an immediate (rules R83, R94, R97). -/
theorem test_decode_vx_other : ∀ p ∈ ([
    (0b000100_10011_00000_10101_00100001010#32, .vrefp 19 21),
    (0b000100_10011_00000_10101_00101001010#32, .vrsqrtefp 19 21),
    (0b000100_10011_00000_10101_00110001010#32, .vexptefp 19 21),
    (0b000100_10011_00000_10101_00111001010#32, .vlogefp 19 21),
    (0b000100_10011_00000_10101_01000001010#32, .vrfin 19 21),
    (0b000100_10011_00000_10101_01001001010#32, .vrfiz 19 21),
    (0b000100_10011_00000_10101_01010001010#32, .vrfip 19 21),
    (0b000100_10011_00000_10101_01011001010#32, .vrfim 19 21),
    (0b000100_10011_00000_10101_01000001110#32, .vupkhsb 19 21),
    (0b000100_10011_00000_10101_01001001110#32, .vupkhsh 19 21),
    (0b000100_10011_00000_10101_01010001110#32, .vupklsb 19 21),
    (0b000100_10011_00000_10101_01011001110#32, .vupklsh 19 21),
    (0b000100_10011_00000_10101_01101001110#32, .vupkhpx 19 21),
    (0b000100_10011_00000_10101_01111001110#32, .vupklpx 19 21),
    (0b000100_10011_11011_10101_01100001010#32, .vcfux 19 21 27),
    (0b000100_10011_11011_10101_01101001010#32, .vcfsx 19 21 27),
    (0b000100_10011_11011_10101_01110001010#32, .vctuxs 19 21 27),
    (0b000100_10011_11011_10101_01111001010#32, .vctsxs 19 21 27),
    (0b000100_10011_0_1011_10101_01000001100#32, .vspltb 19 21 11),
    (0b000100_10011_00_101_10101_01001001100#32, .vsplth 19 21 5),
    (0b000100_10011_000_10_10101_01010001100#32, .vspltw 19 21 2),
    (0b000100_10011_11011_00000_01100001100#32, .vspltisb 19 27),
    (0b000100_10011_11011_00000_01101001100#32, .vspltish 19 27),
    (0b000100_10011_11011_00000_01110001100#32, .vspltisw 19 27),
    (0b000100_10011_0000000000_11000000100#32, .mfvscr 19),
    (0b000100_0000000000_10101_11001000100#32, .mtvscr 21)] : List (Word × Instr)),
    decode p.1 = .ok p.2 := by
  decide +kernel

/-- VXR-form rows with Rc = 1 (rules R85, R98). -/
theorem test_decode_vxr : ∀ p ∈ ([
    (0b000100_10011_01010_10101_1_0000000110#32, .vcmpequb 19 10 21 true),
    (0b000100_10011_01010_10101_1_0001000110#32, .vcmpequh 19 10 21 true),
    (0b000100_10011_01010_10101_1_0010000110#32, .vcmpequw 19 10 21 true),
    (0b000100_10011_01010_10101_1_0011000110#32, .vcmpeqfp 19 10 21 true),
    (0b000100_10011_01010_10101_1_0111000110#32, .vcmpgefp 19 10 21 true),
    (0b000100_10011_01010_10101_1_1000000110#32, .vcmpgtub 19 10 21 true),
    (0b000100_10011_01010_10101_1_1001000110#32, .vcmpgtuh 19 10 21 true),
    (0b000100_10011_01010_10101_1_1010000110#32, .vcmpgtuw 19 10 21 true),
    (0b000100_10011_01010_10101_1_1011000110#32, .vcmpgtfp 19 10 21 true),
    (0b000100_10011_01010_10101_1_1100000110#32, .vcmpgtsb 19 10 21 true),
    (0b000100_10011_01010_10101_1_1101000110#32, .vcmpgtsh 19 10 21 true),
    (0b000100_10011_01010_10101_1_1110000110#32, .vcmpgtsw 19 10 21 true),
    (0b000100_10011_01010_10101_1_1111000110#32, .vcmpbfp 19 10 21 true)] : List (Word × Instr)),
    decode p.1 = .ok p.2 := by
  decide +kernel

/-- VA-form rows (rules R84, R99). -/
theorem test_decode_va : ∀ p ∈ ([
    (0b000100_10011_01010_10101_01100_100000#32, .vmhaddshs 19 10 21 12),
    (0b000100_10011_01010_10101_01100_100001#32, .vmhraddshs 19 10 21 12),
    (0b000100_10011_01010_10101_01100_100010#32, .vmladduhm 19 10 21 12),
    (0b000100_10011_01010_10101_01100_100100#32, .vmsumubm 19 10 21 12),
    (0b000100_10011_01010_10101_01100_100101#32, .vmsummbm 19 10 21 12),
    (0b000100_10011_01010_10101_01100_100110#32, .vmsumuhm 19 10 21 12),
    (0b000100_10011_01010_10101_01100_100111#32, .vmsumuhs 19 10 21 12),
    (0b000100_10011_01010_10101_01100_101000#32, .vmsumshm 19 10 21 12),
    (0b000100_10011_01010_10101_01100_101001#32, .vmsumshs 19 10 21 12),
    (0b000100_10011_01010_10101_01100_101010#32, .vsel 19 10 21 12),
    (0b000100_10011_01010_10101_01100_101011#32, .vperm 19 10 21 12),
    (0b000100_10011_01010_10101_01100_101110#32, .vmaddfp 19 10 21 12),
    (0b000100_10011_01010_10101_01100_101111#32, .vnmsubfp 19 10 21 12),
    (0b000100_10011_01010_10101_0_1001_101100#32, .vsldoi 19 10 21 9)] : List (Word × Instr)),
    decode p.1 = .ok p.2 := by
  decide +kernel

/-- The base rows (rules R420 to R429, R451). -/
theorem test_decode_base : ∀ p ∈ ([
    (0b001110_10011_01010_1000010000100001#32, .addi 19 10 33825),
    (0b001111_10011_01010_1000010000100001#32, .addis 19 10 33825),
    (0b010000_10011_01010_10001101000101_0_0#32, .bc 19 10 9029),
    (0b010010_110000010010001101000101_0_0#32, .b 12657477),
    (0b011000_10011_01010_1000010000100001#32, .ori 10 19 33825),
    (0b011111_10011_01010_10101_1100111000_0#32, .srawi 10 19 21),
    (0b011111_10011_11010_00000_0101010011_0#32, .mfspr 19 26),
    (0b011111_10011_10001_10000_0111010011_0#32, .mtspr 529 19),
    (0b010011_000000000000000_0000110010_0#32, .rfi)] : List (Word × Instr)),
    decode p.1 = .ok p.2 := by
  decide +kernel

/-- A word with Rc = 0 is the compare that records nothing; words that no row matches are unallocated (rule R101). -/
theorem test_decode_edges :
    decode 0x10611006#32 = .ok (.vcmpequb 3 1 2 false) ∧ decode 0#32 = .unallocated 0 ∧
    decode 0x48000001#32 = .unallocated 0x48000001 ∧ decode 0x7CC82671#32 = .unallocated 0x7CC82671 ∧
    decodeBytes [0x10, 0x61] = (.truncated, [0x10, 0x61]) := by
  decide +kernel

/-! ### One step -/

/-- Supervisor state with AltiVec available, at address 0x100. -/
def spvState : State := { State.reset with msr := 0x02000000, pc := 0x100 }

/-- With vector registers 1, 2 and 4 set. -/
def withVectors (a b c : Vec) : State := ((spvState.setVr 1 a).setVr 2 b).setVr 4 c

/-- With the 32 bytes 00 11 … FF 01 12 … 00 at 0x1000, A0 … AF in v3, and r4 and r5 set. -/
def withMemory (r4 r5 : DWord) : State :=
  let quad (s : State) (a : DWord) (v : Vec) := s.writeBytes a 16 (byte v)
  (((quad (quad spvState 0x1000 0x00112233445566778899AABBCCDDEEFF) 0x1010 0x0112233445566778899AABBCCDDEEF00).setVr 3
    0xA0A1A2A3A4A5A6A7A8A9AAABACADAEAF).setGpr 4 r4).setGpr 5 r5

/-- One step of the word leaves `v` in v3 where the mask `m` has ones, the VSCR and the CR, and the pc at 0x104. -/
def gives (s : State) (w : Nat) (m v : Vec) (vscr cr : Word) : Bool :=
  match step (s.withFetchWord 32 w) with
  | .next t => t.vr 3 &&& m == v &&& m && t.vscr == vscr && t.cr == cr && t.pc == 0x104
  | _ => false

/-- One step of the word leaves a state with the property. -/
def leaves (s : State) (w : Nat) (p : State → Bool) : Bool :=
  match step (s.withFetchWord 32 w) with
  | .next t => p t
  | _ => false

/-- All ones: every bit of the result is compared. -/
abbrev full : Vec := BitVec.allOnes 128

/-- lvsl, lvsr, lvtrx, lvtlx, lvswx, lvsm, lvtrxl, lvtlxl, lvswxl (96_test_vectors_derived.md, B45). -/
theorem test_b45_1 :
    let s := withMemory 0x1000 0x6
    gives s 0x7C64280C full 0x060708090A0B0C0D0E0F101112131415 0x0 0x0 ∧
    gives s 0x7C64284C full 0x0A0B0C0D0E0F10111213141516171819 0x0 0x0 ∧
    gives s 0x7C642C4A full 0x00000000000000000000001122334455 0x0 0x0 ∧
    gives s 0x7C642C8A full 0x66778899AABBCCDDEEFF000000000000 0x0 0x0 ∧
    gives s 0x7C642CCA full 0x66778899AABBCCDDEEFF001122334455 0x0 0x0 ∧
    gives s 0x7C642E0A full 0xFFFFFFFFFFFFFFFFFFFF000000000000 0x0 0x0 ∧
    gives s 0x7C642E4A full 0x00000000000000000000001122334455 0x0 0x0 ∧
    gives s 0x7C642E8A full 0x66778899AABBCCDDEEFF000000000000 0x0 0x0 ∧
    gives s 0x7C642ECA full 0x66778899AABBCCDDEEFF001122334455 0x0 0x0 := by
  decide +kernel

/-- lvx, lvexbx, lvepxl, lvexhx, lvepx, lvexwx, lvxl (96_test_vectors_derived.md, B44). -/
theorem test_b44_1 :
    let s := withMemory 0x1000 0x1B
    gives s 0x7C6428CE full 0x0112233445566778899AABBCCDDEEF00 0x0 0x0 ∧
    gives s 0x7C642A0A full 0x0000000000000000000000BC00000000 0x0 0x0 ∧
    gives s 0x7C642A0E full 0x0112233445566778899AABBCCDDEEF00 0x0 0x0 ∧
    gives s 0x7C642A4A full 0x00000000000000000000ABBC00000000 0x0 0x0 ∧
    gives s 0x7C642A4E full 0x0112233445566778899AABBCCDDEEF00 0x0 0x0 ∧
    gives s 0x7C642A8A full 0x0000000000000000899AABBC00000000 0x0 0x0 ∧
    gives s 0x7C642ACE full 0x0112233445566778899AABBCCDDEEF00 0x0 0x0 := by
  decide +kernel

/-- vaddubm, vmaxub, vmuloub, vmrghb, vpkuhum, vadduhm, vmaxuh, vmulouh, vmrghh, vpkuwum, vadduwm, vmaxuw, vmrghw (96_test_vectors_derived.md, B40). -/
theorem test_b40_1 :
    let s := withVectors 0x7FFFFFFF8000000000FF7F80FFFE0001 0x00000001FFFFFFFF0180FF7F00028000 0x7FFFFFFF8000000000010002FFFFFFFF
    gives s 0x10611000 full 0x7FFFFF007FFFFFFF017F7EFFFF008001 0x0 0x0 ∧
    gives s 0x10611002 full 0x7FFFFFFFFFFFFFFF01FFFF80FFFE8001 0x0 0x0 ∧
    gives s 0x10611008 full 0x000000FF000000007F803F8001FC0000 0x0 0x0 ∧
    gives s 0x1061100C full 0x7F00FF00FF00FF0180FF00FF00FF00FF 0x0 0x0 ∧
    gives s 0x1061100E full 0xFFFF0000FF80FE010001FFFF807F0200 0x0 0x0 ∧
    gives s 0x10611040 full 0x7FFF00007FFFFFFF027F7EFF00008001 0x0 0x0 ∧
    gives s 0x10611042 full 0x7FFFFFFFFFFFFFFF0180FF7FFFFE8000 0x0 0x0 ∧
    gives s 0x10611048 full 0x0000FFFF000000007F3FC08000008000 0x0 0x0 ∧
    gives s 0x1061104C full 0x7FFF0000FFFF00018000FFFF0000FFFF 0x0 0x0 ∧
    gives s 0x1061104E full 0xFFFF00007F8000010001FFFFFF7F8000 0x0 0x0 ∧
    gives s 0x10611080 full 0x800000007FFFFFFF02807EFF00008001 0x0 0x0 ∧
    gives s 0x10611082 full 0x7FFFFFFFFFFFFFFF0180FF7FFFFE0001 0x0 0x0 ∧
    gives s 0x1061108C full 0x7FFFFFFF0000000180000000FFFFFFFF 0x0 0x0 := by
  decide +kernel

/-- vpkuhus, vpkuwus, vmaxsb, vmulosb, vmrglb, vpkshus, vmaxsh, vmulosh, vmrglh, vpkswus, vaddcuw, vmaxsw, vmrglw (96_test_vectors_derived.md, B40). -/
theorem test_b40_2 :
    let s := withVectors 0x7FFFFFFF8000000000FF7F80FFFE0001 0x00000001FFFFFFFF0180FF7F00028000 0x7FFFFFFF8000000000010002FFFFFFFF
    gives s 0x1061108E full 0xFFFFFF00FFFFFF010001FFFFFFFF02FF 0x1 0x0 ∧
    gives s 0x106110CE full 0xFFFFFFFFFFFFFFFF0001FFFFFFFFFFFF 0x1 0x0 ∧
    gives s 0x10611102 full 0x7F000001FF00000001FF7F7F00020001 0x0 0x0 ∧
    gives s 0x10611108 full 0x0000FFFF000000000080C080FFFC0000 0x0 0x0 ∧
    gives s 0x1061110C full 0x0001FF807FFF807FFF00FE0200800100 0x0 0x0 ∧
    gives s 0x1061110E full 0xFF000000FFFF000100010000FF000200 0x1 0x0 ∧
    gives s 0x10611142 full 0x7FFF0001FFFF000001807F8000020001 0x0 0x0 ∧
    gives s 0x10611148 full 0xFFFFFFFF00000000FFBFC080FFFF8000 0x0 0x0 ∧
    gives s 0x1061114C full 0x00FF01807F80FF7FFFFE000200018000 0x0 0x0 ∧
    gives s 0x1061114E full 0xFFFF0000FFFF000000010000FFFFFFFF 0x1 0x0 ∧
    gives s 0x10611180 full 0x00000000000000010000000000000001 0x0 0x0 ∧
    gives s 0x10611182 full 0x7FFFFFFFFFFFFFFF0180FF7F00028000 0x0 0x0 ∧
    gives s 0x1061118C full 0x00FF7F800180FF7FFFFE000100028000 0x0 0x0 := by
  decide +kernel

/-- vpkshss, vpkswss, vaddubs, vminub, vmuleub, vadduhs, vminuh, vmuleuh, vadduws, vminuw, vaddsbs, vminsb, vmulesb (96_test_vectors_derived.md, B40). -/
theorem test_b40_3 :
    let s := withVectors 0x7FFFFFFF8000000000FF7F80FFFE0001 0x00000001FFFFFFFF0180FF7F00028000 0x7FFFFFFF8000000000010002FFFFFFFF
    gives s 0x1061118E full 0x7FFF80007F7FFE010001FFFF7F800280 0x1 0x0 ∧
    gives s 0x106111CE full 0x7FFF80007FFF80000001FFFF7FFF7FFF 0x1 0x0 ∧
    gives s 0x10611200 full 0x7FFFFFFFFFFFFFFF01FFFFFFFFFF8001 0x1 0x0 ∧
    gives s 0x10611202 full 0x000000018000000000807F7F00020000 0x0 0x0 ∧
    gives s 0x10611208 full 0x000000007F80000000007E8100000000 0x0 0x0 ∧
    gives s 0x10611240 full 0x7FFFFFFFFFFFFFFF027FFFFFFFFF8001 0x1 0x0 ∧
    gives s 0x10611242 full 0x000000018000000000FF7F8000020001 0x0 0x0 ∧
    gives s 0x10611248 full 0x000000007FFF800000017E800001FFFC 0x0 0x0 ∧
    gives s 0x10611280 full 0x80000000FFFFFFFF02807EFFFFFFFFFF 0x1 0x0 ∧
    gives s 0x10611282 full 0x000000018000000000FF7F8000028000 0x0 0x0 ∧
    gives s 0x10611300 full 0x7FFFFF0080FFFFFF01807EFFFF008001 0x1 0x0 ∧
    gives s 0x10611302 full 0x00FFFFFF80FFFFFF0080FF80FFFE8000 0x0 0x0 ∧
    gives s 0x10611308 full 0x00000000008000000000FF8100000000 0x0 0x0 := by
  decide +kernel

/-- vpkpx, vaddshs, vminsh, vmulesh, vaddsws, vminsw, vsububm, vavgub, vabsdub, vsubuhm, vavguh, vabsduh, vsubuwm (96_test_vectors_derived.md, B40). -/
theorem test_b40_4 :
    let s := withVectors 0x7FFFFFFF8000000000FF7F80FFFE0001 0x00000001FFFFFFFF0180FF7F00028000 0x7FFFFFFF8000000000010002FFFFFFFF
    gives s 0x1061130E full 0xFFFF00007DF0FC000000FFFFC3EF0200 0x0 0x0 ∧
    gives s 0x10611340 full 0x7FFF00008000FFFF027F7EFF00008001 0x1 0x0 ∧
    gives s 0x10611342 full 0x0000FFFF8000FFFF00FFFF7FFFFE8000 0x0 0x0 ∧
    gives s 0x10611348 full 0x000000000000800000017E80FFFFFFFC 0x0 0x0 ∧
    gives s 0x10611380 full 0x7FFFFFFF8000000002807EFF00008001 0x1 0x0 ∧
    gives s 0x10611382 full 0x000000018000000000FF7F80FFFE0001 0x0 0x0 ∧
    gives s 0x10611400 full 0x7FFFFFFE81010101FF7F8001FFFC8001 0x0 0x0 ∧
    gives s 0x10611402 full 0x40808080C080808001C0BF8080804001 0x0 0x0 ∧
    gives s 0x10611403 full 0x7FFFFFFE7FFFFFFF017F8001FFFC8001 0x0 0x0 ∧
    gives s 0x10611440 full 0x7FFFFFFE80010001FF7F8001FFFC8001 0x0 0x0 ∧
    gives s 0x10611442 full 0x40008000C00080000140BF8080004001 0x0 0x0 ∧
    gives s 0x10611443 full 0x7FFFFFFE7FFFFFFF00817FFFFFFC7FFF 0x0 0x0 ∧
    gives s 0x10611480 full 0x7FFFFFFE80000001FF7E8001FFFB8001 0x0 0x0 := by
  decide +kernel

/-- vavguw, vabsduw, vavgsb, vavgsh, vsubcuw, vavgsw, vsububs, vsum4ubs, vsubuhs, vsubuws, vsubsbs, vsubshs, vmhraddshs (96_test_vectors_derived.md, B40). -/
theorem test_b40_5 :
    let s := withVectors 0x7FFFFFFF8000000000FF7F80FFFE0001 0x00000001FFFFFFFF0180FF7F00028000 0x7FFFFFFF8000000000010002FFFFFFFF
    gives s 0x10611482 full 0x40000000C000000001403F8080004001 0x0 0x0 ∧
    gives s 0x10611483 full 0x7FFFFFFE7FFFFFFF00817FFFFFFB8001 0x0 0x0 ∧
    gives s 0x10611502 full 0x40000000C000000001C03F000000C001 0x0 0x0 ∧
    gives s 0x10611542 full 0x40000000C000000001403F800000C001 0x0 0x0 ∧
    gives s 0x10611580 full 0x00000001000000000000000000000001 0x0 0x0 ∧
    gives s 0x10611582 full 0x40000000C000000001403F8000004001 0x0 0x0 ∧
    gives s 0x10611600 full 0x7FFFFFFE00000000007F0001FFFC0001 0x1 0x0 ∧
    gives s 0x10611608 full 0x0000037DFFFFFFFF0181017D000281FE 0x1 0x0 ∧
    gives s 0x10611640 full 0x7FFFFFFE0000000000000000FFFC0000 0x1 0x0 ∧
    gives s 0x10611680 full 0x7FFFFFFE0000000000000000FFFB8001 0x1 0x0 ∧
    gives s 0x10611700 full 0x7FFFFFFE81010101FF7F7F80FFFC7F01 0x1 0x0 ∧
    gives s 0x10611740 full 0x7FFFFFFE80010001FF7F7FFFFFFC7FFF 0x1 0x0 ∧
    gives s 0x10611121 full 0x7FFFFFFF800100000004FF82FFFFFFFE 0x0 0x0 := by
  decide +kernel

/-- vmladduhm, vmsumubm, vmsummbm, vmsumuhm, vmsumuhs, vmsumshm (96_test_vectors_derived.md, B40). -/
theorem test_b40_6 :
    let s := withVectors 0x7FFFFFFF8000000000FF7F80FFFE0001 0x00000001FFFFFFFF0180FF7F00028000 0x7FFFFFFF8000000000010002FFFFFFFF
    gives s 0x10611122 full 0x7FFFFFFE000000007E81C082FFFB7FFF 0x0 0x0 ∧
    gives s 0x10611124 full 0x800000FE80007F8000023D83000001FB 0x0 0x0 ∧
    gives s 0x10611125 full 0x7FFFFFFE7FFF808000013E83FFFFFFFB 0x0 0x0 ∧
    gives s 0x10611126 full 0x8000FFFEFFFF80007F423F0200027FFB 0x0 0x0 ∧
    gives s 0x10611127 full 0x8000FFFEFFFF80007F423F02FFFFFFFF 0x1 0x0 ∧
    gives s 0x10611128 full 0x7FFFFFFE80008000FFC23F02FFFF7FFB 0x0 0x0 := by
  decide +kernel

/-- vrlb, vrlh, vrlw, vslb, vslh, vslw, vsrb, vsrh, vsrw, vsrab, vsrah, vsraw, vand (96_test_vectors_derived.md, B42). -/
theorem test_b42_1 :
    let s := withVectors 0x7FFFFFFF8000000000FF7F80FFFE0001 0x00000001FFFFFFFF0180FF7F00028000 0x00000000000000000000000000000000
    gives s 0x10611004 full 0x7FFFFFFF4000000000FFBF40FFFB0001 0x0 0x0 ∧
    gives s 0x10611044 full 0x7FFFFFFF4000000000FF3FC0FFFB0001 0x0 0x0 ∧
    gives s 0x10611084 full 0xFFFFFFFE40000000007FBFC0FFFE0001 0x0 0x0 ∧
    gives s 0x10611104 full 0x7FFFFFFE0000000000FF8000FFF80001 0x0 0x0 ∧
    gives s 0x10611144 full 0x7FFFFFFE0000000000FF0000FFF80001 0x0 0x0 ∧
    gives s 0x10611184 full 0xFFFFFFFE0000000000000000FFFE0001 0x0 0x0 ∧
    gives s 0x10611204 full 0x7FFFFF7F0100000000FF0001FF3F0001 0x0 0x0 ∧
    gives s 0x10611244 full 0x7FFF7FFF0001000000FF00003FFF0001 0x0 0x0 ∧
    gives s 0x10611284 full 0x3FFFFFFF0000000100000000FFFE0001 0x0 0x0 ∧
    gives s 0x10611304 full 0x7FFFFFFFFF00000000FF00FFFFFF0001 0x0 0x0 ∧
    gives s 0x10611344 full 0x7FFFFFFFFFFF000000FF0000FFFF0001 0x0 0x0 ∧
    gives s 0x10611384 full 0x3FFFFFFFFFFFFFFF00000000FFFE0001 0x0 0x0 ∧
    gives s 0x10611404 full 0x000000018000000000807F0000020000 0x0 0x0 := by
  decide +kernel

/-- vandc, vor, vxor, vnor (96_test_vectors_derived.md, B42). -/
theorem test_b42_2 :
    let s := withVectors 0x7FFFFFFF8000000000FF7F80FFFE0001 0x00000001FFFFFFFF0180FF7F00028000 0x00000000000000000000000000000000
    gives s 0x10611444 full 0x7FFFFFFE00000000007F0080FFFC0001 0x0 0x0 ∧
    gives s 0x10611484 full 0x7FFFFFFFFFFFFFFF01FFFFFFFFFE8001 0x0 0x0 ∧
    gives s 0x106114C4 full 0x7FFFFFFE7FFFFFFF017F80FFFFFC8001 0x0 0x0 ∧
    gives s 0x10611504 full 0x8000000000000000FE00000000017FFE 0x0 0x0 := by
  decide +kernel

/-- vaddfp, vsubfp, vmaxfp, vminfp, vmaddfp, vnmsubfp (96_test_vectors_derived.md, B43). -/
theorem test_b43_1 :
    let s := withVectors 0x3FC00000C02000007F7FFFFF00400000 0x400000003F0000007F7FFFFF80000001 0x4040000040800000400000003F800000
    gives s 0x1061100A full 0x40600000C00000007F800000003FFFFF 0x0 0x0 ∧
    gives s 0x1061104A full 0xBF000000C04000000000000000400001 0x0 0x0 ∧
    gives s 0x1061140A full 0x400000003F0000007F7FFFFF00400000 0x0 0x0 ∧
    gives s 0x1061144A full 0x3FC00000C02000007F7FFFFF80000001 0x0 0x0 ∧
    gives s 0x1061112E full 0x40D00000C11800007F800000003FFFFF 0x0 0x0 ∧
    gives s 0x1061112F full 0xC020000041280000FF7FFFFF80400001 0x0 0x0 := by
  decide +kernel

/-- vrfin, vrfiz, vrfip, vrfim (96_test_vectors_derived.md, B43). -/
theorem test_b43_2 :
    let s := withVectors 0x00000000000000000000000000000000 0x3F0000003FC00000BF00000040200000 0x00000000000000000000000000000000
    gives s 0x1060120A full 0x00000000400000008000000040000000 0x0 0x0 ∧
    gives s 0x1060124A full 0x000000003F8000008000000040000000 0x0 0x0 ∧
    gives s 0x1060128A full 0x3F800000400000008000000040400000 0x0 0x0 ∧
    gives s 0x106012CA full 0x000000003F800000BF80000040000000 0x0 0x0 := by
  decide +kernel

/-- vupkhsb, vupkhsh, vupklsb, vupklsh (96_test_vectors_derived.md, B46). -/
theorem test_b46_1 :
    let s := withVectors 0x00000000000000000000000000000000 0x7F80FF018000FFFF00017FFF80FF7F00 0x00000000000000000000000000000000
    gives s 0x1060120E full 0x007FFF80FFFF0001FF800000FFFFFFFF 0x0 0x0 ∧
    gives s 0x1060124E full 0x00007F80FFFFFF01FFFF8000FFFFFFFF 0x0 0x0 ∧
    gives s 0x1060128E full 0x00000001007FFFFFFF80FFFF007F0000 0x0 0x0 ∧
    gives s 0x106012CE full 0x0000000100007FFFFFFF80FF00007F00 0x0 0x0 := by
  decide +kernel

/-- vupkhpx, vupklpx (96_test_vectors_derived.md, B46). -/
theorem test_b46_2 :
    let s := withVectors 0x00000000000000000000000000000000 0xFFFF00004210BDEF5555AAAA1234FEDC 0x00000000000000000000000000000000
    gives s 0x1060134E full 0xFF1F1F1F0000000000101010FF0F0F0F 0x0 0x0 ∧
    gives s 0x106013CE full 0x00150A15FF0A150A00041114FF1F161C 0x0 0x0 := by
  decide +kernel

/-- vcfux, vcfsx (96_test_vectors_derived.md, B43). -/
theorem test_b43_3 :
    let s := withVectors 0x00000000000000000000000000000000 0x00000001FFFFFFFF8000000001000001 0x00000000000000000000000000000000
    gives s 0x1060130A full 0x3F8000004F8000004F0000004B800000 0x0 0x0 ∧
    gives s 0x1060134A full 0x3F800000BF800000CF0000004B800000 0x0 0x0 := by
  decide +kernel

/-- vctuxs, vctsxs (96_test_vectors_derived.md, B43). -/
theorem test_b43_4 :
    let s := withVectors 0x00000000000000000000000000000000 0x3FC00000BFC000004F0000007FC00000 0x00000000000000000000000000000000
    gives s 0x1060138A full 0x00000001000000008000000000000000 0x1 0x0 ∧
    gives s 0x106013CA full 0x00000001FFFFFFFF7FFFFFFF00000000 0x1 0x0 := by
  decide +kernel

/-- vspltb, vsplth, vspltw (96_test_vectors_derived.md, B46). -/
theorem test_b46_3 :
    let s := withVectors 0x00000000000000000000000000000000 0x101112131415161718191A1B1C1D1E1F 0x00000000000000000000000000000000
    gives s 0x1060120C full 0x10101010101010101010101010101010 0x0 0x0 ∧
    gives s 0x1067124C full 0x1E1F1E1F1E1F1E1F1E1F1E1F1E1F1E1F 0x0 0x0 ∧
    gives s 0x1062128C full 0x18191A1B18191A1B18191A1B18191A1B 0x0 0x0 := by
  decide +kernel

/-- vspltisb, vspltish, vspltisw (96_test_vectors_derived.md, B46). -/
theorem test_b46_4 :
    let s := withVectors 0x00000000000000000000000000000000 0x00000000000000000000000000000000 0x00000000000000000000000000000000
    gives s 0x1070030C full 0xF0F0F0F0F0F0F0F0F0F0F0F0F0F0F0F0 0x0 0x0 ∧
    gives s 0x107F034C full 0xFFFFFFFFFFFFFFFFFFFFFFFFFFFFFFFF 0x0 0x0 ∧
    gives s 0x1070038C full 0xFFFFFFF0FFFFFFF0FFFFFFF0FFFFFFF0 0x0 0x0 := by
  decide +kernel

/-- vcmpequb, vcmpequh, vcmpequw (96_test_vectors_derived.md, B42). -/
theorem test_b42_3 :
    let s := { withVectors 0x7FFFFFFF8000000000FF7F80FFFE0001 0x7FFFFFFF8000000000FF7F80FFFE0001 0x00000000000000000000000000000000 with cr := 0xFFFFFFFF }
    gives s 0x10611406 full 0xFFFFFFFFFFFFFFFFFFFFFFFFFFFFFFFF 0x0 0xFFFFFF8F ∧
    gives s 0x10611446 full 0xFFFFFFFFFFFFFFFFFFFFFFFFFFFFFFFF 0x0 0xFFFFFF8F ∧
    gives s 0x10611486 full 0xFFFFFFFFFFFFFFFFFFFFFFFFFFFFFFFF 0x0 0xFFFFFF8F := by
  decide +kernel

/-- vcmpeqfp, vcmpgefp, vcmpgtfp, vcmpbfp (96_test_vectors_derived.md, B43). -/
theorem test_b43_5 :
    let s := { withVectors 0x400000003F8000003F8000007FC00000 0x3F800000400000003F8000003F800000 0x00000000000000000000000000000000 with cr := 0xFFFFFFFF }
    gives s 0x106114C6 full 0x0000000000000000FFFFFFFF00000000 0x0 0xFFFFFF0F ∧
    gives s 0x106115C6 full 0xFFFFFFFF00000000FFFFFFFF00000000 0x0 0xFFFFFF0F ∧
    gives s 0x106116C6 full 0xFFFFFFFF000000000000000000000000 0x0 0xFFFFFF0F ∧
    gives s 0x106117C6 full 0x800000000000000000000000C0000000 0x0 0xFFFFFF0F := by
  decide +kernel

/-- vcmpgtub, vcmpgtuh, vcmpgtuw, vcmpgtsb, vcmpgtsh, vcmpgtsw (96_test_vectors_derived.md, B42). -/
theorem test_b42_4 :
    let s := { withVectors 0x7FFFFFFF8000000000FF7F80FFFE0001 0x00000001FFFFFFFF0180FF7F00028000 0x00000000000000000000000000000000 with cr := 0xFFFFFFFF }
    gives s 0x10611606 full 0xFFFFFFFF0000000000FF00FFFFFF00FF 0x0 0xFFFFFF0F ∧
    gives s 0x10611646 full 0xFFFFFFFF0000000000000000FFFF0000 0x0 0xFFFFFF0F ∧
    gives s 0x10611686 full 0xFFFFFFFF0000000000000000FFFFFFFF 0x0 0xFFFFFF0F ∧
    gives s 0x10611706 full 0xFF00000000FFFFFF00FFFF000000FFFF 0x0 0xFFFFFF0F ∧
    gives s 0x10611746 full 0xFFFF00000000FFFF0000FFFF0000FFFF 0x0 0xFFFFFF0F ∧
    gives s 0x10611786 full 0xFFFFFFFF000000000000000000000000 0x0 0xFFFFFF0F := by
  decide +kernel

/-- vsl, vsr, vslo, vsro, vsum4shs, vsum2sws, vsum4sbs, vsubsws (96_test_vectors_derived.md). -/
theorem test_single_1 :
    gives (withVectors 0x8000000000000001F00000000000000F 0x03030303030303030303030303030303 0x00000000000000000000000000000000) 0x106111C4 full 0x000000000000000F8000000000000078 0x0 0x0 ∧
    gives (withVectors 0x8000000000000001F00000000000000F 0x07070707070707070707070707070707 0x00000000000000000000000000000000) 0x106112C4 full 0x010000000000000003E0000000000000 0x0 0x0 ∧
    gives (withVectors 0x000102030405060708090A0B0C0D0E0F 0xFFFFFFFFFFFFFFFFFFFFFFFFFFFFFF28 0x00000000000000000000000000000000) 0x1061140C full 0x05060708090A0B0C0D0E0F0000000000 0x0 0x0 ∧
    gives (withVectors 0x000102030405060708090A0B0C0D0E0F 0x00000000000000000000000000000078 0x00000000000000000000000000000000) 0x1061144C full 0x00000000000000000000000000000000 0x0 0x0 ∧
    gives (withVectors 0x7FFF7FFF7FFF7FFF7FFF7FFF7FFF7FFF 0x7FFFFFFF7FFF000180000000FFFF0002 0x00000000000000000000000000000000) 0x10611648 full 0x7FFFFFFF7FFFFFFF8000FFFE00000000 0x1 0x0 ∧
    gives (withVectors 0x00000001000000027FFFFFFF00000001 0x11111111000000102222222200000000 0x00000000000000000000000000000000) 0x10611688 full 0x0000000000000013000000007FFFFFFF 0x1 0x0 ∧
    gives (withVectors 0x80808080808080808080808080808080 0x80000000800001FF000002007FFFFFFF 0x00000000000000000000000000000000) 0x10611708 full 0x8000000080000000000000007FFFFDFF 0x1 0x0 ∧
    gives (withVectors 0x80000000800000008000000080000000 0x00000001000000010000000100000001 0x00000000000000000000000000000000) 0x10611780 full 0x80000000800000008000000080000000 0x1 0x0 := by
  decide +kernel

/-- vsumsws, vmhaddshs, vmsumshs, vsel, vperm, vsldoi (96_test_vectors_derived.md). -/
theorem test_single_2 :
    gives (withVectors 0x7FFFFFFF000000010000000000000000 0xAAAAAAAABBBBBBBBCCCCCCCC00000000 0x00000000000000000000000000000000) 0x10611788 full 0x0000000000000000000000007FFFFFFF 0x1 0x0 ∧
    gives (withVectors 0x80008000800080008000800080008000 0x80008000800080008000800080008000 0x00000000000000000000000000000000) 0x10611120 full 0x7FFF7FFF7FFF7FFF7FFF7FFF7FFF7FFF 0x1 0x0 ∧
    gives (withVectors 0x80008000800080008000800080008000 0x80008000800080008000800080008000 0x7FFFFFFF7FFFFFFF7FFFFFFF7FFFFFFF) 0x10611129 full 0x7FFFFFFF7FFFFFFF7FFFFFFF7FFFFFFF 0x1 0x0 ∧
    gives (withVectors 0xAAAAAAAAAAAAAAAAAAAAAAAAAAAAAAAA 0x55555555555555555555555555555555 0xFFFF000000FF00FF0F0F0F0F80000001) 0x1061112A full 0x5555AAAAAA55AA55A5A5A5A52AAAAAAB 0x0 0x0 ∧
    gives (withVectors 0x000102030405060708090A0B0C0D0E0F 0x101112131415161718191A1B1C1D1E1F 0x0F0E0D0C0B0A09080706050403020100) 0x1061112B full 0x0F0E0D0C0B0A09080706050403020100 0x0 0x0 ∧
    gives (withVectors 0x000102030405060708090A0B0C0D0E0F 0x101112131415161718191A1B1C1D1E1F 0x00000000000000000000000000000000) 0x1061102C full 0x000102030405060708090A0B0C0D0E0F 0x0 0x0 := by
  decide +kernel

/-- An element load puts the bytes in the element of the address and leaves the others open (rules R292, R293, R294; the
vectors of section B44). -/
theorem test_lvebx : ∃ s t, s = withMemory 0x1000 0x1B ∧ exec (.lvebx 3 4 5) s = .next t ∧ byte (t.vr 3) 11 = 0xBC := by
  obtain ⟨s, hs⟩ : ∃ s, s = withMemory 0x1000 0x1B := ⟨_, rfl⟩
  have h1 : s.spv = true ∧ s.xlat = [] ∧ low4 (s.ea 4 5) = 11 ∧ s.byteAt (s.ea 4 5) 0 = 0xBC := by
    subst hs; decide +kernel
  obtain ⟨h1, h2, h3, h4⟩ := h1
  refine ⟨s, ((s.drawn 1).setVr 3 (setByte s.undefVec (low4 (s.ea 4 5)) (s.byteAt (s.ea 4 5) 0))).advance, hs, ?_, ?_⟩
  · show requireSpv s (access s _ _ _ _ _ _) = _
    rw [requireSpv, if_pos h1, access_ok (translate_identity h2 ..)]
    rfl
  · show byte (State.vr (State.setVr _ _ _) 3) 11 = _
    rw [vr_setVr_same, h3, byte_setByte _ _ _ _ (by decide), if_pos rfl, h4]

theorem test_lvehx : ∃ s t, s = withMemory 0x1000 0x1B ∧ exec (.lvehx 3 4 5) s = .next t ∧ half (t.vr 3) 5 = 0xABBC := by
  obtain ⟨s, hs⟩ : ∃ s, s = withMemory 0x1000 0x1B := ⟨_, rfl⟩
  have h1 : s.spv = true ∧ s.xlat = [] ∧ low4 (alignDown 1 (s.ea 4 5)) / 2 = 5 ∧ s.readHalf (alignDown 1 (s.ea 4 5)) = 0xABBC := by
    subst hs; decide +kernel
  obtain ⟨h1, h2, h3, h4⟩ := h1
  refine ⟨s, ((s.drawn 1).setVr 3 (setHalf s.undefVec (low4 (alignDown 1 (s.ea 4 5)) / 2) (s.readHalf (alignDown 1 (s.ea 4 5))))).advance, hs, ?_, ?_⟩
  · show requireSpv s (access s _ _ _ _ _ _) = _
    rw [requireSpv, if_pos h1, access_ok (translate_identity h2 ..)]
    rfl
  · show half (State.vr (State.setVr _ _ _) 3) 5 = _
    rw [vr_setVr_same, h3, half_setHalf _ _ _ _ (by decide), if_pos rfl, h4]

theorem test_lvewx : ∃ s t, s = withMemory 0x1000 0x1B ∧ exec (.lvewx 3 4 5) s = .next t ∧ word (t.vr 3) 2 = 0x899AABBC := by
  obtain ⟨s, hs⟩ : ∃ s, s = withMemory 0x1000 0x1B := ⟨_, rfl⟩
  have h1 : s.spv = true ∧ s.xlat = [] ∧ low4 (alignDown 2 (s.ea 4 5)) / 4 = 2 ∧ s.readWord (alignDown 2 (s.ea 4 5)) = 0x899AABBC := by
    subst hs; decide +kernel
  obtain ⟨h1, h2, h3, h4⟩ := h1
  refine ⟨s, ((s.drawn 1).setVr 3 (setWord s.undefVec (low4 (alignDown 2 (s.ea 4 5)) / 4) (s.readWord (alignDown 2 (s.ea 4 5))))).advance, hs, ?_, ?_⟩
  · show requireSpv s (access s _ _ _ _ _ _) = _
    rw [requireSpv, if_pos h1, access_ok (translate_identity h2 ..)]
    rfl
  · show word (State.vr (State.setVr _ _ _) 3) 2 = _
    rw [vr_setVr_same, h3, word_setWord _ _ _ _ (by decide), if_pos rfl, h4]

/-- EE in the 32 bytes at 0x1000, A0 … AF in v3, r4 = 0x1000, and r5. -/
def beforeStore (r5 : DWord) : State :=
  ((((spvState.writeBytes 0x1000 32 fun _ => 0xEE).setVr 3 0xA0A1A2A3A4A5A6A7A8A9AAABACADAEAF).setGpr 4 0x1000).setGpr 5 r5)

/-- One step of the word leaves these 32 bytes at 0x1000 and every register as it was. -/
def stores (r5 : DWord) (w : Nat) (m0 m1 : Vec) : Bool :=
  let s := (beforeStore r5).withFetchWord 32 w
  match step s with
  | .next t => t.readQuad 0x1000 == m0 && t.readQuad 0x1010 == m1 && { t with mem := s.mem, pc := s.pc } == s
  | _ => false

/-- stvebx, stvehx, stvewx, stvx, stvexbx, stvexhx, stvexwx, stvxl (96_test_vectors_derived.md, B44 and B45). -/
theorem test_stores_1 :
    stores 0x1B 0x7C64290E 0xEEEEEEEEEEEEEEEEEEEEEEEEEEEEEEEE 0xEEEEEEEEEEEEEEEEEEEEEEABEEEEEEEE ∧
    stores 0x1B 0x7C64294E 0xEEEEEEEEEEEEEEEEEEEEEEEEEEEEEEEE 0xEEEEEEEEEEEEEEEEEEEEAAABEEEEEEEE ∧
    stores 0x1B 0x7C64298E 0xEEEEEEEEEEEEEEEEEEEEEEEEEEEEEEEE 0xEEEEEEEEEEEEEEEEA8A9AAABEEEEEEEE ∧
    stores 0x1B 0x7C6429CE 0xEEEEEEEEEEEEEEEEEEEEEEEEEEEEEEEE 0xA0A1A2A3A4A5A6A7A8A9AAABACADAEAF ∧
    stores 0x1B 0x7C642B0A 0xEEEEEEEEEEEEEEEEEEEEEEEEEEEEEEEE 0xEEEEEEEEEEEEEEEEEEEEEEABEEEEEEEE ∧
    stores 0x1B 0x7C642B4A 0xEEEEEEEEEEEEEEEEEEEEEEEEEEEEEEEE 0xEEEEEEEEEEEEEEEEEEEEAAABEEEEEEEE ∧
    stores 0x1B 0x7C642B8A 0xEEEEEEEEEEEEEEEEEEEEEEEEEEEEEEEE 0xEEEEEEEEEEEEEEEEA8A9AAABEEEEEEEE ∧
    stores 0x1B 0x7C642BCE 0xEEEEEEEEEEEEEEEEEEEEEEEEEEEEEEEE 0xA0A1A2A3A4A5A6A7A8A9AAABACADAEAF := by
  decide +kernel

/-- stvfrx, stvflx, stvswx, stvepxl, stvepx, stvfrxl, stvflxl, stvswxl (96_test_vectors_derived.md, B44 and B45). -/
theorem test_stores_2 :
    stores 0x6 0x7C642D4A 0xAAABACADAEAFEEEEEEEEEEEEEEEEEEEE 0xEEEEEEEEEEEEEEEEEEEEEEEEEEEEEEEE ∧
    stores 0x6 0x7C642D8A 0xEEEEEEEEEEEEA0A1A2A3A4A5A6A7A8A9 0xEEEEEEEEEEEEEEEEEEEEEEEEEEEEEEEE ∧
    stores 0x6 0x7C642DCA 0xAAABACADAEAFA0A1A2A3A4A5A6A7A8A9 0xEEEEEEEEEEEEEEEEEEEEEEEEEEEEEEEE ∧
    stores 0x1B 0x7C642E0E 0xEEEEEEEEEEEEEEEEEEEEEEEEEEEEEEEE 0xA0A1A2A3A4A5A6A7A8A9AAABACADAEAF ∧
    stores 0x1B 0x7C642E4E 0xEEEEEEEEEEEEEEEEEEEEEEEEEEEEEEEE 0xA0A1A2A3A4A5A6A7A8A9AAABACADAEAF ∧
    stores 0x6 0x7C642F4A 0xAAABACADAEAFEEEEEEEEEEEEEEEEEEEE 0xEEEEEEEEEEEEEEEEEEEEEEEEEEEEEEEE ∧
    stores 0x6 0x7C642F8A 0xEEEEEEEEEEEEA0A1A2A3A4A5A6A7A8A9 0xEEEEEEEEEEEEEEEEEEEEEEEEEEEEEEEE ∧
    stores 0x6 0x7C642FCA 0xAAABACADAEAFA0A1A2A3A4A5A6A7A8A9 0xEEEEEEEEEEEEEEEEEEEEEEEEEEEEEEEE := by
  decide +kernel

/-- The four estimates on the operands of the source's special-operand tables (95_test_vectors.md, W9): infinities and
zeros. -/
theorem test_estimates_special :
    let s := withVectors 0 0xFF80000080000000000000007F800000 0
    gives s 0x1060110A full 0x80000000FF8000007F80000000000000 0 0 ∧
    gives s 0x1060114A full 0x7FC00000FF8000007F80000000000000 0 0 ∧
    gives s 0x106011CA full 0x7FC00000FF800000FF8000007F800000 0 0 ∧
    gives s 0x1060118A full 0x000000003F8000003F8000007F800000 0 0 := by
  decide +kernel

/-! ### VSCR, moves and streams (section B47 of 96_test_vectors_derived.md) -/

theorem test_mfvscr : gives { spvState with vscr := 0x00010001 } 0x10600604 full 0x10001 0x00010001 0 := by decide +kernel

theorem test_mtvscr : leaves (spvState.setVr 2 0xFFFFFFFFFFFFFFFFFFFFFFFF00010000) 0x10001644
    (fun t => t.vscr == 0x00010000) := by
  decide +kernel

theorem test_mvidsplt : gives ((spvState.setGpr 4 0x0123456789ABCDEF).setGpr 5 0xFEDCBA9876543210) 0x7C6428DC full
    0x0123456789ABCDEFFEDCBA9876543210 0 0 := by
  decide +kernel

theorem test_mviwsplt : gives ((spvState.setGpr 4 0x0123456789ABCDEF).setGpr 5 0xFEDCBA9876543210) 0x7C64285C full
    0x89ABCDEF7654321089ABCDEF76543210 0 0 := by
  decide +kernel

/-- dst, dstt, dstst, dststt, dss and dssall with MSR[SPV] = 0: the pc moves and nothing else. -/
theorem test_streams : [0x7C242AAC, 0x7E442AAC, 0x7C642AEC, 0x7E042AEC, 0x7C60066C, 0x7E00066C].all (fun w =>
    let s := ({ State.reset with pc := 0x100 } : State).withFetchWord 32 w
    leaves { State.reset with pc := 0x100 } w fun t => t == { s with pc := 0x104 }) = true := by
  decide +kernel

/-! ### The base instructions (section B49) -/

theorem test_addi : leaves (spvState.setGpr 8 0xFFFFFFFFFFFFFFFF) 0x39080001 (fun t => t.gpr 8 == 0) ∧
    leaves (spvState.setGpr 0 0x999) 0x38E0FFFF (fun t => t.gpr 7 == 0xFFFFFFFFFFFFFFFF) := by
  decide +kernel

theorem test_addis : leaves spvState 0x3C808000 (fun t => t.gpr 4 == 0xFFFFFFFF80000000) := by decide +kernel

theorem test_ori : leaves (spvState.setGpr 0 0x10) 0x60040001 (fun t => t.gpr 4 == 0x11) := by decide +kernel

theorem test_srawi : leaves (spvState.setGpr 6 0x12345678FFFFFFF1) 0x7CC82670
    (fun t => t.gpr 8 == 0xFFFFFFFFFFFFFFFF && t.xerCA) ∧
    leaves { spvState.setGpr 6 0x30 with xerCA := true } 0x7CC82670 (fun t => t.gpr 8 == 3 && !t.xerCA) := by
  decide +kernel

theorem test_b : leaves spvState 0x4BFFFFF0 (fun t => t.pc == 0xF0) := by decide +kernel

theorem test_bc : leaves { spvState with ctr := 2 } 0x4200FFF0 (fun t => t.ctr == 1 && t.pc == 0xF0) ∧
    leaves { spvState with ctr := 0x100000001, mode64 := false } 0x4200FFF0
      (fun t => t.ctr == 0x100000000 && t.pc == 0x104) ∧
    leaves { spvState with cr := 0x80 } 0x41980008 (fun t => t.pc == 0x108) := by
  decide +kernel

theorem test_mfspr : leaves { spvState with vrsave := 0xC0000001, msr := 0x4000 } 0x7C6042A6
    (fun t => t.gpr 3 == 0xC0000001 && t.pc == 0x104) := by
  decide +kernel

theorem test_mtspr : leaves (spvState.setGpr 3 0xFFFFFFFF80000001) 0x7C6043A6 (fun t => t.vrsave == 0x80000001) := by
  decide +kernel

theorem test_rfi : leaves { spvState with srr0 := 0x2003, srr1 := 0x02004000 } 0x4C000064
    (fun t => t.msr == 0x02004000 && t.pc == 0x2000) := by
  decide +kernel

/-! ### Interrupts (section B60) -/

/-- Handlers at distinct addresses, and a platform that answers every access to 0x2000 … 0x2FFF with a fault. -/
def withFault (f : StorageFault) (toGuest : Bool) : State :=
  { spvState with
    ivor2 := 0x20, ivor5 := 0x50, ivor6 := 0x60, ivor13 := 0xD0, ivor32 := 0x200, ivor33 := 0x210
    xlat := [{ base := 0x2000, size := 0x1000, kind := none, ctx := none, result := .fault f toGuest }] }

/-- With r4 = 0x2000 and r5 = 0x1B. -/
def atFault (s : State) : State := (s.setGpr 4 0x2000).setGpr 5 0x1B

theorem test_unavailable : leaves { withFault .dataStorage false with msr := 0x4000 } 0x10611000
    (fun t => t.pc == 0x200 && t.srr0 == 0x100 && t.srr1 == 0x4000 && t.msr == 0 && t.esr == 0) := by
  decide +kernel

theorem test_dataStorage_stvx : leaves (atFault (withFault .dataStorage false)) 0x7C6429CE
    (fun t => t.pc == 0x20 && t.srr1 == 0x02000000 && t.esr == 0x00800080 && t.dear == 0x2010) := by
  decide +kernel

theorem test_dataTLBError_lvewx : leaves (atFault (withFault .dataTLBError false)) 0x7C64288E
    (fun t => t.pc == 0xD0 && t.esr == 0x80 && t.dear == 0x2018 && t.vr 3 == 0) := by
  decide +kernel

theorem test_program_lvepx : leaves { withFault .dataStorage false with msr := 0x4000 } 0x7C642A4E
    (fun t => t.pc == 0x60 && t.srr1 == 0x4000 && t.esr == 0x04000000) := by
  decide +kernel

/-- An interrupt directed to the guest saves in GSRR0, GSRR1 and GESR (rule R462). -/
theorem test_guest : leaves { atFault (withFault .dataStorage true) with cfg := { Cfg.initial with hasEHV := true } }
    0x7C6429CE (fun t => t.gsrr0 == 0x100 && t.gsrr1 == 0x02000000 && t.gesr == 0x00800080 && t.srr0 == 0 && t.esr == 0) := by
  decide +kernel

/-- A platform in which 0x2000 … 0x2FFF is little-endian, caching-inhibited or write-through required, and moved to
0x8000, on an implementation that interrupts on the last two. -/
def withAttribute (ci wt : Bool) : State :=
  { withFault .dataStorage false with
    cfg := { Cfg.initial with alignIntOnCIWT := true }
    xlat := [{
      base := 0x2000, size := 0x1000, kind := none, ctx := none
      result := .ok 0x8000 { cachingInhibited := ci, writeThrough := wt, littleEndian := true } }] }

theorem test_alignment_stvflx : leaves (atFault (withAttribute true false)) 0x7C642D8A
    (fun t => t.pc == 0x50 && t.esr == 0x00800080 && t.dear == 0x201B) := by
  decide +kernel

/-- Code at a translated address is fetched from the real address, where a load of that address reads it (rules R42, R80). -/
theorem test_translated_fetch : leaves { withAttribute false false with pc := 0x2000 } 0x10611000
    (fun t => t.pc == 0x2004 && t.readWord 0x8000 == 0x10611000 && t.readWord 0x2000 == 0) := by
  decide +kernel

/-- A translated access reads the real address (rule R66), and its bytes in the same order under the little-endian
attribute (rule R53). -/
theorem test_translated_lvx : leaves ((atFault (withAttribute true true)).writeBytes 0x8010 16 fun k => BitVec.ofNat 8 k)
    0x7C6428CE (fun t => t.vr 3 == 0x000102030405060708090A0B0C0D0E0F && t.pc == 0x104) := by
  decide +kernel

/-- An implementation that leaves every denormalized operand to software. -/
def withAssist : State :=
  { (withVectors 0x00000001 0 0) with ivor33 := 0x210, cfg := { Cfg.initial with assist := .everyDenormal } }

theorem test_assist_vaddfp : leaves withAssist 0x1061100A
    (fun t => t.pc == 0x210 && t.srr0 == 0x100 && t.esr == 0 && t.vr 3 == 0) := by
  decide +kernel

/-! ### Hypotheses are met

Each theorem shows a state and operands that meet the hypotheses of the statement it names, for each of its clauses. -/

/-- StepRunsDecodedInstruction: a pc that no entry translates, and one at the last word of a translated page. -/
theorem witness_StepRunsDecodedInstruction :
    [(0x100#64, 0x100#64), (0x2FFC#64, 0x8FFC#64)].all (fun p =>
      let s := ({ withAttribute false false with pc := p.1 } : State).withFetchWord 32 0x10611000
      decide (s.pc.setWidth 2 = 0#2) &&
        (match s.translate s.pc .load s.normalCtx with | .ok real _ => real == p.2 | .fault _ _ => false) &&
        decode (s.byteAt p.2 0 ++ s.byteAt p.2 1 ++ s.byteAt p.2 2 ++ s.byteAt p.2 3) == .ok (.vaddubm 3 1 2)) =
      true := by
  decide +kernel

/-- StopsHaveNames: a misaligned pc, no base machine supplied, an unallocated word, a pc whose translation faults, an absent
category, an SPR number beside each end of the list. -/
theorem witness_StopsHaveNames :
    spvState.cfg.baseStep = .refuse ∧ spvState.baseMachine = none ∧
    ({ spvState with pc := 0x102 } : State).pc.setWidth 2 ≠ 0#2 ∧
    spvState.pc.setWidth 2 = 0#2 ∧ spvState.translate spvState.pc .load spvState.normalCtx = .ok 0x100 MemAttr.plain ∧
    decode (spvState.readWord 0x100) = .unallocated 0 ∧
    [({ withFault .dataStorage false with pc := 0x2000 } : State)].all (fun s =>
      decide (s.pc.setWidth 2 = 0#2) && s.translate s.pc .load s.normalCtx == .fault .dataStorage false) = true ∧
    ({ spvState with cfg := { Cfg.initial with hasEPD := false } } : State).cfg.hasEPD = false ∧
    ({ spvState with cfg := { Cfg.initial with impl64 := false } } : State).cfg.impl64 = false ∧
    (7#10).toNat ∉ [8, 9, 26, 27, 256, 528, 529] ∧ (530#10).toNat ∉ [8, 9, 26, 27, 256, 528, 529] := by
  decide +kernel

/-- ReservedFieldsIgnored, the clause over the X-form rows: the least and the greatest extended opcode of a row. -/
theorem witness_ReservedFieldsIgnored :
    6 < 1024 ∧ decode (wordX 6 1 2 3) = .ok (.lvsl 1 2 3) ∧ kindOf (.lvsl 1 2 3) ≠ .base ∧
    997 < 1024 ∧ decode (wordX 997 1 2 3) = .ok (.stvswxl 1 2 3) ∧ kindOf (.stvswxl 1 2 3) ≠ .base := by
  decide +kernel

/-- EveryStepKeepsInvariant: a state with the invariant from which a step answers a next state, a store. -/
theorem witness_EveryStepKeepsInvariant :
    ∃ s t, State.Inv s ∧ s = (beforeStore 0x1B).withFetchWord 32 0x7C6429CE ∧ step s = .next t := by
  obtain ⟨s, hs⟩ : ∃ s, s = (beforeStore 0x1B).withFetchWord 32 0x7C6429CE := ⟨_, rfl⟩
  have h : Memory.wf s.mem ∧ s.pc.setWidth 2 = 0#2 ∧ s.is64 = true ∧ s.cfg.impl64 = true ∧
      (leaves (beforeStore 0x1B) 0x7C6429CE fun _ => true) = true := by
    subst hs; decide +kernel
  obtain ⟨h1, h2, h3, h4, h5⟩ := h
  have h6 : ∀ k, (s.ivor k).setWidth 4 = 0#4 := by
    subst hs; intro k; cases k <;> decide +kernel
  rw [leaves, ← hs] at h5
  split at h5
  · exact ⟨s, _, ⟨h1, h2, h6, fun h => by simp [h3] at h, fun h => by simp [h4] at h, fun h => by simp [h4] at h⟩,
      hs, ‹_›⟩
  · cases h5

/-- AltiVecUnavailableTaken: a vector instruction, an external-PID form, and mvidsplt. -/
theorem witness_AltiVecUnavailableTaken :
    kindOf (.vaddubm 3 1 2) = .vector ∧ kindOf (.mvidsplt 3 4 5) = .vector ∧ State.reset.cfg.impl64 = true ∧
    kindOf (.lvepx 3 4 5) = .externalPid ∧ State.reset.cfg.hasEPD = true ∧ State.reset.prBit = false ∧
    State.reset.spv = false := by
  decide +kernel

/-- StreamInstructionsDoNothing: all six. -/
theorem witness_StreamInstructionsDoNothing :
    [Instr.dst 0 4 5, .dstt 1 4 5, .dstst 2 4 5, .dststt 3 4 5, .dss 0, .dssall 3].all
      (fun i => kindOf i == .stream) = true := by
  decide +kernel

/-- User state, with AltiVec available or not. -/
def userState (spv : Bool) : State := { spvState with msr := if spv then 0x02004000 else 0x4000 }

/-- PrivilegedInstructionsTrap. -/
theorem witness_PrivilegedInstructionsTrap :
    (userState true).prBit = true ∧ (userState false).prBit = true ∧ (userState true).cfg.hasEPD = true ∧
    [Instr.lvepx 3 4 5, .lvepxl 3 4 5, .stvepx 3 4 5, .stvepxl 3 4 5].all (fun i => kindOf i == .externalPid) = true ∧
    [26#10, 27#10, 528#10, 529#10].all (fun n => decide (n.toNat ∈ [26, 27, 528, 529])) = true := by
  decide +kernel

/-- StorageInterruptTaken: a load and a store in the normal context, and an external-PID load and store. -/
theorem witness_StorageInterruptTaken : let s := atFault (withFault .dataStorage false)
    accessOf (.lvewx 3 4 5) s = some ⟨0x2018, .load, s.normalCtx, false⟩ ∧
    accessOf (.stvx 3 4 5) s = some ⟨0x2010, .store, s.normalCtx, false⟩ ∧
    accessOf (.lvepx 3 4 5) s = some ⟨0x2010, .load, s.externalCtx s.eplc, true⟩ ∧
    accessOf (.stvepxl 3 4 5) s = some ⟨0x2010, .store, s.externalCtx s.epsc, true⟩ ∧
    s.spv = true ∧ s.cfg.hasEPD = true ∧ s.prBit = false ∧
    s.translate 0x2018 .load s.normalCtx = .fault .dataStorage false ∧
    s.translate 0x2010 .store s.normalCtx = .fault .dataStorage false ∧
    s.translate 0x2010 .load (s.externalCtx s.eplc) = .fault .dataStorage false ∧
    s.translate 0x2010 .store (s.externalCtx s.epsc) = .fault .dataStorage false := by
  decide +kernel

/-- StorageInterruptToGuest. -/
theorem witness_StorageInterruptToGuest :
    let s := { atFault (withFault .dataTLBError true) with cfg := { Cfg.initial with hasEHV := true } }
    accessOf (.lvx 3 4 5) s = some ⟨0x2010, .load, s.normalCtx, false⟩ ∧ s.spv = true ∧
    s.translate 0x2010 .load s.normalCtx = .fault .dataTLBError true := by
  decide +kernel

/-- AlignmentInterruptTaken: caching-inhibited and write-through required, at the first and the last byte of a quad word. -/
theorem witness_AlignmentInterruptTaken :
    [(withAttribute true false, 0x10#64), (withAttribute false true, 0x1F#64)].all (fun p =>
      let s := (p.1.setGpr 4 0x2000).setGpr 5 p.2
      s.spv && s.cfg.alignIntOnCIWT &&
        [AccessKind.load, .store].all (fun k =>
          (match s.translate (s.ea 4 5) k s.normalCtx with | .ok _ m => m.cachingInhibited || m.writeThrough | .fault _ _ => false) &&
          (match s.translate (alignDown 4 (s.ea 4 5)) k s.normalCtx with | .ok _ _ => true | .fault _ _ => false))) =
      true := by
  decide +kernel

/-- AssistInterruptTaken: a denormalized element under the policy that always interrupts, none under it, and one under the
policy that never does. -/
theorem witness_AssistInterruptTaken :
    floatSources (.vaddfp 3 1 2) withAssist = some (wordsOf (withAssist.vr 1) ++ wordsOf (withAssist.vr 2)) ∧
    withAssist.spv = true ∧ (wordsOf (withAssist.vr 1) ++ wordsOf (withAssist.vr 2)).any isDenormal = true ∧
    withAssist.cfg.assist = .everyDenormal ∧
    floatSources (.vrefp 3 2) withAssist = some (wordsOf (withAssist.vr 2)) ∧
    (wordsOf (withAssist.vr 2)).any isDenormal = false ∧ spvState.cfg.assist = .never := by
  decide +kernel

/-- RfiRestoresMsrAndPc, MoveFromSprResults and MoveToSprResults: supervisor state, and an aligned pc. -/
theorem witness_supervisor : State.reset.prBit = false ∧ spvState.pc.setWidth 2 = 0#2 := by decide +kernel

/-- ShiftRightAlgebraicWordResult and IntegerSplatResults: both widths of an implementation. -/
theorem witness_impl64 : State.reset.cfg.impl64 = true ∧
    ({ spvState with cfg := { Cfg.initial with impl64 := false } } : State).cfg.impl64 = false := by
  decide +kernel

/-- BranchResults: CTR used and not, taken and not taken by each test, in both modes. -/
theorem witness_BranchResults :
    (20#5).getMsbD 2 = true ∧ (20#5).getMsbD 0 = true ∧ (16#5).getMsbD 2 = false ∧ (12#5).getMsbD 2 = true ∧
    (12#5).getMsbD 0 = false ∧ (12#5).getMsbD 1 = true ∧ State.reset.crBit 26 = false ∧
    ({ State.reset with cr := 0x20 } : State).crBit 26 = true ∧ State.reset.is64 = true ∧
    ({ State.reset with mode64 := false } : State).is64 = false := by
  decide +kernel

/-- Every statement made of VectorRule, SatRule2, CompareRule or FloatRule: MSR[SPV] set and clear; for the last, no assist
due and assist due; with them the clause of the compares for Rc = 1 and that of mfvscr for a clear bit. -/
theorem witness_rules :
    spvState.spv = true ∧ State.reset.spv = false ∧ spvState.vscr.getLsbD 31 = false ∧
    assistDue (.vaddfp 3 1 2) (wordsOf (spvState.vr 1) ++ wordsOf (spvState.vr 2)) spvState = false ∧
    assistDue (.vaddfp 3 1 2) (wordsOf (withAssist.vr 1) ++ wordsOf (withAssist.vr 2)) withAssist = true ∧
    assistDue (.vctsxs 3 1 4) (wordsOf (withAssist.vr 1)) withAssist = true ∧ withAssist.spv = true := by
  decide +kernel

/-- LongShiftResults: the shift count is the same in the 16 bytes, at its ends 0 and 7; and a vector where it is not. -/
theorem witness_LongShiftResults :
    (∀ j < 16, (byte (0 : Vec) j).toNat % 8 = (0 : Vec).toNat % 8) ∧
    (∀ j < 16, (byte (full) j).toNat % 8 = full.toNat % 8) ∧
    ¬ ∀ j < 16, (byte (1 : Vec) j).toNat % 8 = (1 : Vec).toNat % 8 := by
  decide +kernel

/-- EffectiveAddressAndAlignment. -/
theorem witness_EffectiveAddressAndAlignment : 0 < 64 ∧ 63 < 64 ∧ State.reset.xlat = [] := by decide +kernel

/-- ElementLoadResults, ElementStoreResults, VectorLoadResults, VectorStoreResults, PartialLoadResults, PartialStoreResults
and StoreThenLoadReturnsVector: a translated little-endian page, the first and the last byte of a quad
word, and for the left and right forms an implementation that could raise the alignment interrupt. -/
theorem witness_accesses :
    [(0x10#64, 0x8010#64), (0x1F#64, 0x801F#64)].all (fun p =>
      let s := ((withAttribute false false).setGpr 4 0x2000).setGpr 5 p.1
      let m : MemAttr := { cachingInhibited := false, writeThrough := false, littleEndian := true }
      s.spv && decide (Memory.wf s.mem) && s.cfg.hasEPD && !s.prBit && s.cfg.alignIntOnCIWT &&
        [AccessKind.load, .store].all (fun k =>
          !s.alignmentDue (s.ea 4 5) k && s.translate (s.ea 4 5) k s.normalCtx == .ok p.2 m &&
          s.translate (alignDown 1 (s.ea 4 5)) k s.normalCtx == .ok (alignDown 1 p.2) m &&
          s.translate (alignDown 2 (s.ea 4 5)) k s.normalCtx == .ok (alignDown 2 p.2) m &&
          s.translate (alignDown 4 (s.ea 4 5)) k s.normalCtx == .ok 0x8010 m &&
          s.translate (alignDown 4 (s.ea 4 5)) k (s.externalCtx s.eplc) == .ok 0x8010 m &&
          s.translate (alignDown 4 (s.ea 4 5)) k (s.externalCtx s.epsc) == .ok 0x8010 m)) = true := by
  decide +kernel

/-- FloatConversionResults: a NaN, a value in range, and values past both limits; FloatCompareResults: a relation that
holds and one that does not. -/
theorem witness_FloatConversionResults :
    isNaN 0x7FC00000 = true ∧ isNaN 0x3F800000 = false ∧ isNaN 0x4F800000 = false ∧
    (2 ^ 32 - 1 : Int) < (valueOf 0x4F800000 * 2 ^ 0).tdiv (2 ^ 149) ∧
    (valueOf 0xCF800000 * 2 ^ 0).tdiv (2 ^ 149) < (-2 ^ 31 : Int) ∧ valueOf 0x3F800000 < valueOf 0x4F800000 := by
  decide +kernel

/-- FloatSpecialOperands, each clause: the NaN of each place, infinities of like and of unlike signs, infinity and zero,
zeros, a negative number, and sums and products that cancel; a denormalized number is a zero under NJ = 1. -/
theorem witness_FloatSpecialOperands :
    isNaN (flushIn false 0x7F800001) = true ∧ isNaN (flushIn true 0x3F800000) = false ∧
    isInf (flushIn false 0x7F800000) = true ∧ isInf (flushIn false 0xFF800000) = true ∧
    signOf (0x7F800000 : Word) ≠ signOf (0xFF800000 : Word) ∧ isZero (flushIn false 0x80000000) = true ∧
    isZero (flushIn true 0x00000001) = true ∧ isZero (flushIn false 0x00000001) = false ∧
    isNaN (0xFF7FFFFF : Word) = false ∧ isZero (0xFF7FFFFF : Word) = false ∧ signOf (0xFF7FFFFF : Word) = true ∧
    isInf (flushIn true 0x3F800000) = false ∧ isZero (flushIn true 0x3F800000) = false ∧
    valueOf 0x3F800000 + valueOf 0xBF800000 = 0 ∧ valueOf 0x3F800000 - valueOf 0x3F800000 = 0 ∧
    valueOf 0x3F800000 * valueOf 0x3F800000 + valueOf 0xBF800000 * 2 ^ 149 = 0 ∧
    valueOf 0x3F800000 * valueOf 0x3F800000 - valueOf 0x3F800000 * 2 ^ 149 = 0 := by
  decide +kernel

/-- The clauses of FloatSpecialOperands at the ends of their ranges: infinities that cancel and that do not, zeros, the
denormalized numbers next to zero, and the largest numbers (rules R244, R250 to R255). -/
theorem test_special_operands :
    fpAdd false 0x7F800000 0xFF7FFFFF = 0x7F800000 ∧ fpSub false 0x3F800000 0x7F800000 = 0xFF800000 ∧
    fpAdd false 0x80000000 0x80000000 = 0x80000000 ∧ fpSub false 0x80000000 0 = 0x80000000 ∧
    fpSub false 0x3F800000 0x3F800000 = 0 ∧ fpAdd true 0x80000001 0x80000000 = 0x80000000 ∧
    fpMax false 0x80000001 0xFF800000 = 0x80000001 ∧ fpMin false 0x00000001 0x80000000 = 0x80000000 ∧
    fpMin true 0x80000001 0x3F800000 = 0x80000000 ∧
    fpMadd false 0x7F800000 0xFF800000 0x3F800000 = 0x7FC00000 ∧
    fpMadd false 0xBF800000 0x7F7FFFFF 0x7F800000 = 0xFF800000 ∧
    fpNmsub false 0x3F800000 0xFF800000 0x40000000 = 0xFF800000 ∧
    fpMadd false 0xBF800000 0x80000000 0x00000000 = 0x80000000 ∧
    fpNmsub false 0x3F800000 0x3F800000 0x3F800000 = 0x80000000 := by
  decide +kernel

/-- FloatResultsRoundToNearest: magnitudes on both sides of the halfway point above the largest number and of 2^-126, and
finite operands with sums and differences that are not zero. -/
theorem witness_FloatResultsRoundToNearest :
    (1 : Nat) ≠ 0 ∧ 149 ≤ 149 ∧ isInf (roundMag false false ((2 ^ 277 - 2 ^ 252) * 2 ^ (149 - 149)) 149) = true ∧
    isInf (roundMag false false ((2 ^ 277 - 2 ^ 252) * 2 ^ (149 - 149) - 1) 149) = false ∧
    isNaN 0x3F800000 = false ∧ isInf 0x3F800000 = false ∧ isNaN 0x40000000 = false ∧ isInf 0x40000000 = false ∧
    isNaN 0x00000001 = false ∧ isInf 0x00000001 = false ∧ valueOf 0x3F800000 + valueOf 0x40000000 ≠ 0 ∧
    valueOf 0x3F800000 - valueOf 0x40000000 ≠ 0 ∧
    valueOf 0x3F800000 * valueOf 0x00000001 + valueOf 0x40000000 * 2 ^ 149 ≠ 0 ∧
    valueOf 0x40000000 * 2 ^ 149 - valueOf 0x3F800000 * valueOf 0x00000001 ≠ 0 ∧ (-1 : Int) ≠ 0 ∧
    roundMag true true (2 ^ 23 * 2 ^ (150 - 149) - 1) 150 = 0x80000000 ∧
    roundMag true true (2 ^ 23 * 2 ^ (150 - 149)) 150 = 0x80800000 ∧
    roundMag false true (2 ^ 23 * 2 ^ (150 - 149) - 1) 150 = 0x80800000 ∧
    isNaN (flushIn true 0x00000001) = false ∧ isInf (flushIn true 0x00000001) = false := by
  decide +kernel

/-- IntegralRounding: a NaN, an infinity, and the tie 2.5. -/
theorem witness_IntegralRounding :
    isNaN (flushIn false 0x7F800001) = true ∧ isInf (flushIn false 0xFF800000) = true ∧
    isNaN (flushIn false 0x40200000) = false ∧ isInf (flushIn false 0x40200000) = false ∧
    valueOf (fpIntegral .near false 0x40200000) = 2 * 2 ^ 149 ∧ 2 * |(2 * 2 ^ 149 : Int) - valueOf 0x40200000| = 2 ^ 149 := by
  decide +kernel

/-- EstimatesWithinBounds: the least and the greatest operand, a negative one, and operands at the values where the clauses
of the bounds meet: a reciprocal of 2^-126 and of less, a logarithm of 0, and powers at 128, -126, -149 and below. -/
theorem witness_EstimatesWithinBounds :
    ([0x00000001, 0x7F7FFFFF, 0x80000001, 0x3F800000, 0x7E800000, 0x7E800001, 0x42FFFFFF, 0x43000000, 0xC2FC0000,
      0xC2FC0001, 0xC3150000, 0xC3160000] : List Word).all
      (fun x => !isNaN (flushIn false x) && !isInf (flushIn false x) && !isZero (flushIn false x)) = true ∧
    isZero (flushIn true 0x00800000) = false ∧ signOf (0x00000001 : Word) = false ∧
    magOf (estRecip false 0xFFFFFFFF 0x7E800000) = 2 ^ 23 ∧ magOf (estRecip false 0xFFFFFFFF 0x7E800001) < 2 ^ 23 ∧
    estRecip true 0xFFFFFFFF 0x7F000000 = 0 ∧ isInf (estRecip false 0xFFFFFFFF 0x00000001) = true ∧
    estLog2 false 0xFFFFFFFF 0x3F800000 = 0 ∧ estLog2 false 0xFFFFFFFF 0x00000001 = 0xC3150000 := by
  decide +kernel

/-- The power of two at the values where the clauses of rule R271 meet: an infinity at 128, and exact at 127, at the least
normal exponent and at the least one; 0 below, and for NJ = 1 below -126. -/
theorem witness_EstimatesWithinBounds_power :
    ([(false, 0x43000000, 0x7F800000), (false, 0x42FE0000, 0x7F000000), (false, 0xC2FC0000, 0x00800000),
      (true, 0xC2FC0000, 0x00800000), (true, 0xC2FC0001, 0), (false, 0xC3150000, 0x00000001), (false, 0xC3160000, 0)] :
      List (Bool × Word × Word)).all (fun p => estExp2 p.1 0xFFFFFFFF p.2.1 == p.2.2) = true := by
  decide +kernel

/-- Just above 2^-126 with NJ = 1 a denormalized candidate within 1/16 is turned away, and a zero is not (rule R245). -/
theorem test_exp2_no_denormal : estExp2 true 0x007FFFFF 0xC2FBFFFF ≠ 0x007FFFFF ∧
    estExp2 false 0x007FFFFF 0xC2FBFFFF = 0x007FFFFF ∧ estExp2 true 0 0xC2FBFFFF = 0 := by
  decide +kernel

/-- Operands next to zero: 2^x is on one side of 1 by less than any precision but the whole one, and the words at 1/16 from
1 are kept or turned away as the side says (rule R271). -/
theorem test_exp2_near_one :
    estExp2 false 0x3F700000 0x21800000 ≠ 0x3F700000 ∧ estExp2 false 0x3F880000 0x21800000 = 0x3F880000 ∧
    estExp2 false 0x3F700000 0x80800000 = 0x3F700000 ∧ estExp2 false 0x3F880000 0x80800000 ≠ 0x3F880000 ∧
    estExp2 false 0x3F700000 0x00000001 ≠ 0x3F700000 ∧ estExp2 false 0x3F880000 0x80000001 ≠ 0x3F880000 := by
  decide +kernel

/-- Logarithms of numbers next to 1: within 1/8 of the magnitude, to the last bit (rule R270). -/
theorem test_log2_near_one :
    estLog2 false 0x3438AA3B 0x3F800001 = 0x3438AA3B ∧ estLog2 false 0 0x3F800001 ≠ 0 ∧
    estLog2 false 0xB3B8AA3B 0x3F7FFFFF = 0xB3B8AA3B ∧ estLog2 false 0x34800000 0x3F800001 ≠ 0x34800000 := by
  decide +kernel

/-- SaturationIsSticky: SAT set, an instruction other than mtvscr, and a next state. -/
theorem witness_SaturationIsSticky : (∀ v, Instr.vaddubs 3 1 2 ≠ .mtvscr v) ∧
    ∃ s t, State.sat s = true ∧ s.vscr = 0x00010001 ∧ exec (.vaddubs 3 1 2) s = .next t :=
  ⟨fun _ => by simp, { spvState with vscr := 0x00010001 }, _, by decide, rfl, rfl⟩

/-- UserStateIsConfined: steps from user state that complete and that interrupt. -/
theorem witness_UserStateIsConfined : (userState true).prBit = true ∧
    leaves (userState true) 0x10611000 (fun t => t.msr == 0x02004000 && t.pc == 0x104) ∧
    leaves (userState false) 0x10611000 (fun t => t.srr1 == 0x4000 && t.msr == 0) := by
  decide +kernel

end Sys2Proof.Tests
end

section
/-! What an instruction can do: the writes it makes before the pc moves, the forms of the state it leaves, and that
every instruction of the model leaves one of these forms, or what the base machine gives. -/

namespace Sys2Proof.Machine

open Sys2Proof

/-! ### The forms of an effect -/

/-- `u` is `s` after writes that the instruction `i` can make; none of them moves the pc. A supervisor register is written
in supervisor state only (rule R461), and bits of the VSCR other than SAT by `mtvscr` only (rule R401). -/
inductive Writes (i : Instr) (s : State) : State → Prop where
  | none : Writes i s s
  | draw {u : State} (n : Nat) (h : Writes i s u) : Writes i s (u.drawn n)
  | vr {u : State} (r : Reg) (v : Vec) (h : Writes i s u) : Writes i s (u.setVr r v)
  | orSat {u : State} (b : Bool) (h : Writes i s u) : Writes i s (u.orSat b)
  | cr6 {u : State} (f : BitVec 4) (h : Writes i s u) : Writes i s (u.setCr6 f)
  | vscr {u : State} (w : Word) (hi : ∃ vb, i = .mtvscr vb) (h : Writes i s u) : Writes i s { u with vscr := w }
  | gpr {u : State} (r : Reg) (v : DWord) (h : Writes i s u) : Writes i s (u.setGpr r v)
  | carry {u : State} (c : Bool) (h : Writes i s u) : Writes i s { u with xerCA := c }
  | count {u : State} (bo : BitVec 5) (h : Writes i s u) : Writes i s { u with ctr := u.branchCtr bo }
  | spr {u : State} (r : Spr) (rs : Reg) (hr : r.supervisor = true → s.prBit = false) (h : Writes i s u) :
      Writes i s (u.writeSpr r (u.gpr rs))
  | bytes {u : State} (a : DWord) (n : Nat) (f : Nat → Byte) (h : Writes i s u) : Writes i s (u.writeBytes a n f)

/-- `t` is a state that the instruction `i` of the model leaves from `s`: writes, and then the pc moves on, to a branch
target, to a handler, or back from one. -/
inductive Effect (i : Instr) (s : State) : State → Prop where
  | completes {u : State} (h : Writes i s u) : Effect i s u.advance
  | branches {u : State} {offset : DWord} (ho : offset.setWidth 2 = 0#2) (h : Writes i s u) :
      Effect i s (u.setPc (u.pc + offset))
  | interrupted {u : State} (k : Interrupt) (syn : Option Word) (addr : Option DWord) (g : Bool) (h : Writes i s u) :
      Effect i s (u.takeInterrupt k syn addr g)
  | returns (hp : s.prBit = false) : Effect i s s.returnFromInterrupt

/-- Where the answer `r` is a next state, it is the base machine's or an effect of `i`. -/
def HasEffect (i : Instr) (s : State) (r : Result) : Prop :=
  ∀ t, r = .next t → s.baseMachine = some t ∨ Effect i s t

/-! ### The shared operations -/

section
variable {i : Instr} {s u : State} {r : Result}

theorem hasEffect_next {t : State} (h : Effect i s t) : HasEffect i s (.next t) := by
  rintro _ ⟨⟩
  exact .inr h

theorem hasEffect_orBase {x : Refusal} : HasEffect i s (orBase s x) := fun _ h => .inl (orBase_next h)

theorem hasEffect_interrupt {k : Interrupt} {syn : Option Word} {addr : Option DWord} {g : Bool} (hu : Writes i s u) :
    HasEffect i s (.next (u.takeInterrupt k syn addr g)) :=
  hasEffect_next (.interrupted k syn addr g hu)

theorem hasEffect_requireSpv (h : HasEffect i s r) : HasEffect i s (requireSpv s r) := by
  unfold requireSpv
  split
  · exact h
  · exact hasEffect_interrupt .none

theorem hasEffect_requireSupervisor (h : s.prBit = false → HasEffect i s r) :
    HasEffect i s (requireSupervisor s r) := by
  unfold requireSupervisor
  split
  · exact hasEffect_interrupt .none
  · exact h (Bool.eq_false_of_not_eq_true ‹_›)

theorem hasEffect_orAssist {j : Instr} {src : List Word} (h : HasEffect i s r) : HasEffect i s (orAssist j src s r) := by
  unfold orAssist
  split
  · exact hasEffect_interrupt .none
  · exact h

theorem hasEffect_orAlignment {ea : DWord} {kind : AccessKind} (h : HasEffect i s r) :
    HasEffect i s (orAlignment s ea kind r) := by
  unfold orAlignment
  split
  · exact hasEffect_interrupt .none
  · exact h

theorem hasEffect_access {ea : DWord} {kind : AccessKind} {ctx : AccessCtx} {ext : Bool} {go : DWord → Result}
    (hu : Writes i s u) (h : ∀ real, HasEffect i s (go real)) : HasEffect i s (access s ea kind ctx ext u go) := by
  unfold access
  split
  · exact h _
  · exact hasEffect_interrupt hu

theorem hasEffect_externalPid {name : String} (h : HasEffect i s r) : HasEffect i s (externalPid name s r) := by
  unfold externalPid
  split
  · exact hasEffect_requireSupervisor fun _ => hasEffect_requireSpv h
  · exact hasEffect_orBase

theorem hasEffect_withSpr {n : BitVec 10} {go : Spr → Result}
    (h : ∀ q : Spr, (q.supervisor = true → s.prBit = false) → HasEffect i s (go q)) :
    HasEffect i s (withSpr n s go) := by
  unfold withSpr
  split
  · exact hasEffect_orBase
  · split
    · exact hasEffect_requireSupervisor fun hp => h _ fun _ => hp
    · exact h _ fun hq => absurd hq ‹_›

theorem hasEffect_complete {vd : Reg} {v : Vec} (hu : Writes i s u) : HasEffect i s (complete u vd v) :=
  hasEffect_next (.completes (.vr vd v hu))

theorem hasEffect_completeSat {vd : Reg} {p : Vec × Bool} : HasEffect i s (completeSat s vd p) :=
  hasEffect_next (.completes (.orSat p.2 (.vr vd p.1 .none)))

theorem hasEffect_completeCompare {vd : Reg} {rc : Bool} {v : Vec} {record : Vec → BitVec 4} :
    HasEffect i s (completeCompare s vd rc v record) := by
  cases rc with
  | false => exact hasEffect_next (.completes (.vr vd v .none))
  | true => exact hasEffect_next (.completes (.cr6 (record v) (.vr vd v .none)))

theorem hasEffect_store {a : DWord} {n : Nat} {f : Nat → Byte} :
    HasEffect i s (.next (s.writeBytes a n f).advance) :=
  hasEffect_next (.completes (.bytes a n f .none))

theorem writes_partialLoad (vd : Reg) : Writes i s (s.partialLoad vd) := by
  unfold State.partialLoad
  split
  · exact .vr _ _ (.draw 1 .none)
  · exact .draw 1 .none

end

/-! ### The instructions -/

section
variable {i : Instr} {s : State}

theorem hasEffect_loadElem {vd : Reg} {a : DWord} {u : State} {put : DWord → Vec} (hu : Writes i s u) :
    HasEffect i s (loadElem s vd a u put) :=
  hasEffect_requireSpv (hasEffect_access .none fun _ => hasEffect_complete hu)

theorem hasEffect_loadQuad {vd ra rb : Reg} {ctx : AccessCtx} {ext : Bool} :
    HasEffect i s (loadQuad s vd ra rb ctx ext) :=
  hasEffect_access (writes_partialLoad vd) fun _ => hasEffect_complete .none

theorem hasEffect_bitShift {f : Vec → Nat → Vec} {vd va vb : Reg} : HasEffect i s (bitShift f vd va vb s) := by
  refine hasEffect_requireSpv ?_
  split
  · exact hasEffect_complete .none
  · exact hasEffect_complete (.draw 1 .none)

theorem hasEffect_mvidsplt {vd ra rb : Reg} : HasEffect i s (execMvidsplt vd ra rb s) := by
  unfold execMvidsplt
  split
  · exact hasEffect_requireSpv (hasEffect_complete .none)
  · exact hasEffect_orBase

/-- A branch displacement is a multiple of 4: its field has two zero bits appended (rules R425, R426). -/
theorem branchOffset_aligned {n : Nat} (d : BitVec n) : ((d ++ 0#2).signExtend 64).setWidth 2 = 0#2 := by
  apply BitVec.eq_of_getLsbD_eq
  intro j hj
  simp [BitVec.getLsbD_signExtend, BitVec.getLsbD_append, hj]
  omega

theorem hasEffect_bc {bo bi : BitVec 5} {bd : BitVec 14} : HasEffect i s (execBc bo bi bd s) := by
  refine hasEffect_next ?_
  split
  · exact .branches (branchOffset_aligned bd) (.count bo .none)
  · exact .completes (.count bo .none)

end

/-- Every instruction of the model has an effect of one of these forms, or is left to the base machine. -/
theorem exec_hasEffect (i : Instr) (s : State) : HasEffect i s (exec i s) := by
  cases i with
  | vupkhsb | vupkhsh | vupklsb | vupklsh | vupkhpx | vupklpx | vcfux | vcfsx | vspltb | vsplth | vspltw | vaddubm
  | vmaxub | vrlb | vmuloub | vmrghb | vpkuhum | vadduhm | vmaxuh | vrlh | vmulouh | vmrghh | vpkuwum | vadduwm
  | vmaxuw | vrlw | vmrghw | vmaxsb | vslb | vmulosb | vmrglb | vmaxsh | vslh | vmulosh | vmrglh | vaddcuw | vmaxsw
  | vslw | vmrglw | vminub | vsrb | vmuleub | vminuh | vsrh | vmuleuh | vminuw | vsrw | vminsb | vsrab | vmulesb
  | vpkpx | vminsh | vsrah | vmulesh | vminsw | vsraw | vsububm | vavgub | vabsdub | vand | vslo | vsubuhm | vavguh
  | vabsduh | vandc | vsro | vsubuwm | vavguw | vabsduw | vor | vxor | vavgsb | vnor | vavgsh | vsubcuw | vavgsw
  | vsldoi | vmladduhm | vmsumubm | vmsummbm | vmsumuhm | vmsumshm | vsel | vperm | lvsl | lvsr | lvsm | vspltisb
  | vspltish | vspltisw | mviwsplt => exact hasEffect_requireSpv (hasEffect_complete .none)
  | mfvscr => exact hasEffect_requireSpv (hasEffect_complete (.draw _ .none))
  | vpkuhus | vpkuwus | vpkshus | vpkswus | vpkshss | vpkswss | vaddubs | vadduhs | vadduws | vaddsbs | vaddshs
  | vaddsws | vsububs | vsum4ubs | vsubuhs | vsum4shs | vsubuws | vsum2sws | vsubsbs | vsum4sbs | vsubshs | vsubsws
  | vsumsws | vmhaddshs | vmhraddshs | vmsumuhs | vmsumshs => exact hasEffect_requireSpv hasEffect_completeSat
  | vcmpequb | vcmpequh | vcmpequw | vcmpgtub | vcmpgtuh | vcmpgtuw | vcmpgtsb | vcmpgtsh | vcmpgtsw =>
    exact hasEffect_requireSpv hasEffect_completeCompare
  | vsl | vsr => exact hasEffect_bitShift
  | vrfin | vrfiz | vrfip | vrfim | vaddfp | vsubfp | vmaxfp | vminfp | vmaddfp | vnmsubfp =>
    exact hasEffect_requireSpv (hasEffect_orAssist (hasEffect_complete .none))
  | vrefp | vrsqrtefp | vexptefp | vlogefp =>
    exact hasEffect_requireSpv (hasEffect_orAssist (hasEffect_complete (.draw _ .none)))
  | vctuxs | vctsxs => exact hasEffect_requireSpv (hasEffect_orAssist hasEffect_completeSat)
  | vcmpeqfp | vcmpgefp | vcmpgtfp | vcmpbfp =>
    exact hasEffect_requireSpv (hasEffect_orAssist hasEffect_completeCompare)
  | lvebx | lvehx | lvewx => exact hasEffect_loadElem (.draw _ .none)
  | lvexbx | lvexhx | lvexwx => exact hasEffect_loadElem .none
  | stvebx | stvehx | stvewx | stvexbx | stvexhx | stvexwx =>
    exact hasEffect_requireSpv (hasEffect_access .none fun _ => hasEffect_store)
  | lvx | lvxl => exact hasEffect_requireSpv hasEffect_loadQuad
  | stvx | stvxl | stvswx | stvswxl => exact hasEffect_requireSpv (hasEffect_access .none fun _ => hasEffect_store)
  | lvepx | lvepxl => exact hasEffect_externalPid hasEffect_loadQuad
  | stvepx | stvepxl => exact hasEffect_externalPid (hasEffect_access .none fun _ => hasEffect_store)
  | lvtlx | lvtlxl | lvtrx | lvtrxl =>
    exact hasEffect_requireSpv (hasEffect_access .none fun _ => hasEffect_orAlignment (hasEffect_complete .none))
  | lvswx | lvswxl => exact hasEffect_requireSpv (hasEffect_access .none fun _ => hasEffect_complete .none)
  | stvflx | stvflxl | stvfrx | stvfrxl =>
    exact hasEffect_requireSpv (hasEffect_access .none fun _ => hasEffect_orAlignment hasEffect_store)
  | dst | dstt | dstst | dststt | dss | dssall => exact hasEffect_next (.completes .none)
  | mvidsplt => exact hasEffect_mvidsplt
  | mtvscr vb => exact hasEffect_requireSpv (hasEffect_next (.completes (.vscr _ ⟨vb, rfl⟩ .none)))
  | addi | addis | ori => exact hasEffect_next (.completes (.gpr _ _ .none))
  | srawi => exact hasEffect_next (.completes (.carry _ (.gpr _ _ .none)))
  | b li => exact hasEffect_next (.branches (branchOffset_aligned li) .none)
  | bc => exact hasEffect_bc
  | mfspr => exact hasEffect_withSpr fun _ _ => hasEffect_next (.completes (.gpr _ _ .none))
  | mtspr => exact hasEffect_withSpr fun _ hr => hasEffect_next (.completes (.spr _ _ hr .none))
  | rfi => exact hasEffect_requireSupervisor fun hp => hasEffect_next (.returns hp)

/-- A step runs an instruction of the model, or is the base machine's. -/
theorem step_effect {s t : State} (h : step s = .next t) : s.baseMachine = some t ∨ ∃ i, Effect i s t := by
  obtain ⟨-, real, -, -, hw⟩ := fetch_next h
  unfold runWord at hw
  split at hw
  case h_1 i _ => exact (exec_hasEffect i s t hw).imp_right fun he => ⟨i, he⟩
  case h_2 => exact .inl (orBase_next hw)
  case h_3 => exact .inl (orBase_next hw)

end Sys2Proof.Machine
end

section
/-! The invariant: reset meets it, every write keeps it, and so does every move of the pc. -/

namespace Sys2Proof.Machine

open Sys2Proof

/-- Settles O6: each value is the one `State.reset` lists. -/
theorem resetValuesOfTheSpec : Obligations.ResetValuesOfTheSpec := ⟨rfl, rfl, rfl, rfl, rfl, rfl⟩

/-- Settles O7: memory is empty, the pc and the IVORs are 0, and reset is a 64-bit implementation in 64-bit mode. -/
theorem resetMeetsInvariant : Obligations.ResetMeetsInvariant where
  memCanonical := reset_mem_wf
  pcAligned := rfl
  ivorsAligned k := by cases k <;> rfl
  pcNarrow h := nomatch h
  gprsNarrow h := nomatch h
  ctrNarrow h := nomatch h

section
variable {s : State}

/-! ### Writes -/

theorem inv_setGpr (h : s.Inv) (r : Reg) (v : DWord) : (s.setGpr r v).Inv :=
  { h with
    gprsNarrow := fun hc q => by
      rw [gpr_setGpr]
      split
      · exact toXlen_narrow _ _ hc
      · exact h.gprsNarrow hc q }

theorem inv_writeBytes (h : s.Inv) (a : DWord) (n : Nat) (f : Nat → Byte) : (s.writeBytes a n f).Inv := by
  induction n with
  | zero => exact h
  | succ n ih => exact { ih with memCanonical := writeByte_wf _ _ _ ih.memCanonical }

/-- CTR stays narrow whether it is decremented, and then cut, or not. -/
theorem inv_branchCtr (h : s.Inv) (bo : BitVec 5) : State.Inv { s with ctr := s.branchCtr bo } :=
  { h with
    ctrNarrow := fun hc => by
      refine ⟨?_, (h.ctrNarrow hc).2⟩
      unfold State.branchCtr
      split
      · exact (h.ctrNarrow hc).1
      · exact toXlen_narrow _ _ hc }

/-- What `mtspr` puts in an IVOR is a multiple of 16 (rule R32). -/
theorem ivorValue_aligned (v : DWord) : (v.setWidth 16 &&& 0xFFF0#16).setWidth 4 = 0#4 := by
  rw [BitVec.setWidth_and, show (0xFFF0#16).setWidth 4 = 0#4 from rfl, BitVec.and_zero]

theorem inv_writeSpr (h : s.Inv) (r : Spr) (rs : Reg) : (s.writeSpr r (s.gpr rs)).Inv := by
  cases r with
  | lr => exact { h with ctrNarrow := fun hc => ⟨(h.ctrNarrow hc).1, h.gprsNarrow hc rs⟩ }
  | ctr => exact { h with ctrNarrow := fun hc => ⟨h.gprsNarrow hc rs, (h.ctrNarrow hc).2⟩ }
  | srr0 | srr1 | vrsave => exact { h with }
  | ivor32 =>
    refine { h with ivorsAligned := fun k => ?_ }
    have hk := h.ivorsAligned k
    cases k with
    | altivecUnavailable => exact ivorValue_aligned _
    | _ => exact hk
  | ivor33 =>
    refine { h with ivorsAligned := fun k => ?_ }
    have hk := h.ivorsAligned k
    cases k with
    | altivecAssist => exact ivorValue_aligned _
    | _ => exact hk

theorem inv_writes {i : Instr} {u : State} (hs : s.Inv) (hw : Writes i s u) : u.Inv := by
  induction hw with
  | none => exact hs
  | draw _ _ ih | vr _ _ _ ih | orSat _ _ ih | cr6 _ _ ih | vscr _ _ _ ih | carry _ _ ih => exact { ih with }
  | gpr r v _ ih => exact inv_setGpr ih r v
  | count bo _ ih => exact inv_branchCtr ih bo
  | spr r rs _ _ ih => exact inv_writeSpr ih r rs
  | bytes a n f _ ih => exact inv_writeBytes ih a n f

/-! ### Moves of the pc -/

theorem inv_setPc (h : s.Inv) {a : DWord} (ha : a.setWidth 2 = 0#2) : (s.setPc a).Inv :=
  { h with
    pcAligned := (modeAddr_setWidth s a 2 (by decide)).trans ha
    pcNarrow := modeAddr_narrow s a }

/-- The pc moved by a multiple of 4. -/
theorem inv_setPc_add (h : s.Inv) {d : DWord} (hd : d.setWidth 2 = 0#2) : (s.setPc (s.pc + d)).Inv :=
  inv_setPc h (by rw [BitVec.setWidth_add _ _ (by decide), h.pcAligned, hd]; rfl)

/-- The address of a handler is aligned as its IVOR is (rule R450). -/
theorem handler_aligned (h : s.Inv) (k : Interrupt) : (s.ivpr ++ s.ivor k).setWidth 2 = 0#2 := by
  rw [BitVec.setWidth_append, dif_pos (by decide), ← BitVec.setWidth_setWidth_of_le _ (show 2 ≤ 4 by decide),
    h.ivorsAligned k]
  rfl

theorem inv_takeInterrupt (h : s.Inv) (k : Interrupt) (syn : Option Word) (addr : Option DWord) (g : Bool) :
    (s.takeInterrupt k syn addr g).Inv :=
  { inv_setPc h (handler_aligned h k) with }

theorem inv_returnFromInterrupt (h : s.Inv) : s.returnFromInterrupt.Inv :=
  have ha : (s.srr0 &&& ~~~3#64).setWidth 2 = 0#2 := by
    rw [BitVec.setWidth_and, show (~~~3#64).setWidth 2 = 0#2 from rfl, BitVec.and_zero]
  { inv_setPc h ha with }

end

theorem inv_effect {i : Instr} {s t : State} (hs : s.Inv) (he : Effect i s t) : t.Inv := by
  cases he with
  | completes hw => exact inv_setPc_add (inv_writes hs hw) rfl
  | branches ho hw => exact inv_setPc_add (inv_writes hs hw) ho
  | interrupted k syn addr g hw => exact inv_takeInterrupt (inv_writes hs hw) k syn addr g
  | returns => exact inv_returnFromInterrupt hs

/-- Settles O8: a step has an effect of a known form, or is the base machine's, and every effect keeps the invariant. -/
theorem everyStepKeepsInvariant : Obligations.EveryStepKeepsInvariant := by
  intro s t hs h
  obtain hb | ⟨i, he⟩ := step_effect h
  · exact .inr hb
  · exact .inl (inv_effect hs he)

end Sys2Proof.Machine
end

section
/-! The VSCR: what a read of it gives, the two moves, and that SAT is sticky. -/

namespace Sys2Proof.Machine

open Sys2Proof

/-! ### The two moves -/

/-- A bit of the VSCR that is not reserved reads as it is (rule R28). -/
theorem vscrRead_of_not_reserved (s : State) {j : Nat} (hj : vscrReserved.getLsbD j = false) (h : j < 32) :
    s.vscrRead.getLsbD j = s.vscr.getLsbD j := by
  unfold State.vscrRead
  split
  · rfl
  · simp only [BitVec.getLsbD_or, BitVec.getLsbD_and, BitVec.getLsbD_not, hj, h]
    simp

/-- A bit that holds 0 reads 0, reserved or not (rule R28). -/
theorem vscrRead_of_zero (s : State) {j : Nat} (hj : s.vscr.getLsbD j = false) : s.vscrRead.getLsbD j = false := by
  unfold State.vscrRead
  split
  · exact hj
  · simp [hj]

/-- The VSCR is right-justified in a vector register (rule R29). -/
theorem getLsbD_rightJustified (x : Word) {j : Nat} (hj : j < 32) : (0#96 ++ x).getLsbD j = x.getLsbD j := by
  rw [BitVec.getLsbD_append, if_pos hj]

/-- `mtvscr` changes the VSCR, SAT with it, and the pc. -/
theorem frame_vscr (s : State) (w : Word) : Frame [.vscr, .sat] s ({ s with vscr := w } : State).advance := by
  constructor <;> try simp
  · exact fun q => vr_congr (by simp) q
  · exact fun q => gpr_congr (by simp) q
  · exact fun i _ => crBit_congr (by simp) i
  · exact fun b => readByte_congr (by simp) b

/-- Settles O22: `mfvscr` completes with what the VSCR reads as, and `mtvscr` writes the low word of vB. -/
theorem vscrMoveResults : Obligations.VscrMoveResults := by
  refine fun s v => ⟨vectorRule_of_requireSpv rfl fun _ => ?_, vectorRule_of_requireSpv rfl fun _ => ?_⟩
  · obtain ⟨t, ht, hpc, ⟨hv, -⟩, hf⟩ := complete_drawn_spec s s.vscrDraws v (0#96 ++ s.vscrRead)
    refine ⟨t, ht, hpc, ?_, hf⟩
    rw [hv]
    refine ⟨BitVec.extractLsb'_append_eq_left, ?_, ?_, fun j hj h0 => ?_⟩
    · rw [getLsbD_rightJustified _ (by decide), vscrRead_of_not_reserved s rfl (by decide), State.nj]
    · rw [getLsbD_rightJustified _ (by decide), vscrRead_of_not_reserved s rfl (by decide), State.sat]
    · rw [getLsbD_rightJustified _ hj, vscrRead_of_zero s h0]
  · exact ⟨_, rfl, rfl, rfl, frame_vscr ..⟩

/-! ### SAT is sticky -/

/-- A set SAT of `s` is set in `t`, and the other bits of the VSCR are the same (rules R24 to R26). -/
def VscrKept (s t : State) : Prop :=
  (s.sat = true → t.sat = true) ∧ ∀ j, j ≠ 0 → t.vscr.getLsbD j = s.vscr.getLsbD j

theorem vscrKept_of_eq {s u t : State} (h : VscrKept s u) (e : t.vscr = u.vscr) : VscrKept s t :=
  ⟨fun hs => (sat_congr e).trans (h.1 hs), fun j hj => (congrArg (·.getLsbD j) e).trans (h.2 j hj)⟩

theorem vscrKept_orSat {s u : State} (h : VscrKept s u) (b : Bool) : VscrKept s (u.orSat b) :=
  ⟨fun hs => by rw [orSat_sat, h.1 hs, Bool.true_or], fun j hj => (orSat_other u b j hj).trans (h.2 j hj)⟩

theorem writeSpr_vscr (s : State) (r : Spr) (v : DWord) : (s.writeSpr r v).vscr = s.vscr := by cases r <;> rfl

theorem vscrKept_writes {i : Instr} {s u : State} (hi : ∀ v, i ≠ .mtvscr v) (hw : Writes i s u) : VscrKept s u := by
  induction hw with
  | none => exact ⟨id, fun _ _ => rfl⟩
  | orSat b _ ih => exact vscrKept_orSat ih b
  | vscr _ hm => exact absurd hm.choose_spec (hi _)
  | draw _ _ ih | vr _ _ _ ih | cr6 _ _ ih | gpr _ _ _ ih | carry _ _ ih | count _ _ ih => exact vscrKept_of_eq ih rfl
  | spr r rs _ _ ih => exact vscrKept_of_eq ih (writeSpr_vscr ..)
  | bytes a n f _ ih => exact vscrKept_of_eq ih (writeBytes_vscr ..)

/-- A move of the pc does not touch the VSCR, interrupts included. -/
theorem vscrKept_effect {i : Instr} {s t : State} (hi : ∀ v, i ≠ .mtvscr v) (he : Effect i s t) : VscrKept s t := by
  cases he with
  | completes hw | branches _ hw | interrupted _ _ _ _ hw => exact vscrKept_of_eq (vscrKept_writes hi hw) rfl
  | returns => exact vscrKept_of_eq (vscrKept_writes hi .none) rfl

/-- Settles O58: of the writes an instruction can make, only that of `mtvscr` clears SAT or writes another VSCR bit. -/
theorem saturationIsSticky : Obligations.SaturationIsSticky := fun i s t hi h =>
  (exec_hasEffect i s t h).imp_right (vscrKept_effect hi)

end Sys2Proof.Machine
end

section
/-! Storage accesses: effective addresses, and the storage interrupt of a load or store whose translation fails. -/

namespace Sys2Proof.Machine

open Sys2Proof

/-! ### Effective addresses -/

/-- The sum of the two registers, in the width of the computation mode (rule R55). -/
theorem ea_toNat (s : State) (ra rb : Reg) :
    (s.ea ra rb).toNat =
      ((if ra = 0 then 0 else (s.gpr ra).toNat) + (s.gpr rb).toNat) % (if s.is64 then 2 ^ 64 else 2 ^ 32) := by
  have hz : (s.gprOrZero ra).toNat = if ra = 0 then 0 else (s.gpr ra).toNat := by
    unfold State.gprOrZero
    split <;> rfl
  have hd : (if s.is64 then 2 ^ 64 else 2 ^ 32) ∣ 2 ^ 64 := by
    split
    · exact dvd_rfl
    · exact pow_dvd_pow 2 (by decide)
  rw [State.ea, modeAddr_toNat, BitVec.toNat_add, Nat.mod_mod_of_dvd _ hd, hz]

/-- Settles O42: the effective address, its alignment, and the identity translation of an empty table. -/
theorem effectiveAddressAndAlignment : Obligations.EffectiveAddressAndAlignment := fun s ra rb k a kind c =>
  ⟨ea_toNat s ra rb, fun _ => alignDown_toNat k a, fun hx => translate_identity hx a kind c⟩

/-! ### Where a load or store goes when its translation fails -/

/-- The state from which a load or store takes the storage interrupt: only a whole-vector load may have touched its
target by then (rules R67, R456). -/
def faultState (i : Instr) (s : State) : State :=
  match i with
  | .lvx vd _ _ | .lvxl vd _ _ | .lvepx vd _ _ | .lvepxl vd _ _ => s.partialLoad vd
  | _ => s

section
variable {s u : State} {ea : DWord} {kind : AccessKind} {ctx : AccessCtx} {f : StorageFault} {g ext : Bool}
  {go : DWord → Result}

theorem requireSpv_access_fault (hs : s.spv = true) (ht : s.translate ea kind ctx = .fault f g) :
    requireSpv s (access s ea kind ctx ext u go) = .next (u.storageInterrupt f g ea (kind == .store) ext) := by
  rw [requireSpv, if_pos hs, access_fault ht]

theorem externalPid_access_fault {name : String} (hx : s.cfg.hasEPD = true ∧ s.prBit = false) (hs : s.spv = true)
    (ht : s.translate ea kind ctx = .fault f g) :
    externalPid name s (access s ea kind ctx ext u go) =
      .next (u.storageInterrupt f g ea (kind == .store) ext) := by
  obtain ⟨hepd, hpr⟩ := hx
  rw [externalPid, if_pos hepd, requireSupervisor, hpr, requireSpv_access_fault hs ht]
  rfl

end

/-- Each of the 32 loads and stores, past its privilege and MSR[SPV] tests, takes the storage interrupt where its
translation fails, directed to the guest or not (rules R66, R452, R462). -/
theorem exec_storageInterrupt {i : Instr} {s : State} {a : Access} {f : StorageFault} {g : Bool}
    (ha : accessOf i s = some a) (hs : s.spv = true)
    (hx : a.isExternal = true → s.cfg.hasEPD = true ∧ s.prBit = false)
    (ht : s.translate a.addr a.kind a.ctx = .fault f g) :
    exec i s = .next ((faultState i s).storageInterrupt f g a.addr (a.kind == .store) a.isExternal) := by
  cases i with
  | lvepx | lvepxl | stvepx | stvepxl =>
    cases ha
    exact externalPid_access_fault (hx rfl) hs ht
  | lvebx | lvehx | lvewx | lvexbx | lvexhx | lvexwx | stvebx | stvehx | stvewx | stvexbx | stvexhx | stvexwx
  | lvx | lvxl | stvx | stvxl | lvtlx | lvtlxl | lvtrx | lvtrxl | lvswx | lvswxl
  | stvflx | stvflxl | stvfrx | stvfrxl | stvswx | stvswxl =>
    cases ha
    exact requireSpv_access_fault hs ht
  | _ => cases ha

/-! ### What that interrupt leaves -/

/-- A whole-vector load that faults has drawn a free value, and its target holds some value: perhaps the one it had. -/
theorem partialLoad_eq (s : State) (vd : Reg) : ∃ v, s.partialLoad vd = (s.drawn 1).setVr vd v := by
  unfold State.partialLoad
  split
  · exact ⟨_, rfl⟩
  · refine ⟨s.vr vd, ?_⟩
    simp [State.setVr, State.vr, State.drawn]

/-- Interrupt entry after a draw and the write of one vector register. -/
theorem entered_drawn_setVr (s : State) (n : Nat) (r : Reg) (v : Vec) (k : Interrupt) (syn : Option Word)
    (addr : Option DWord) :
    Entered k syn addr [.vr r, .draws] s (((s.drawn n).setVr r v).takeInterrupt k syn addr false) :=
  { takeInterrupt_entered ((s.drawn n).setVr r v) k syn addr with
    frame := by
      constructor <;> try simp
      · intro q hq
        exact (vr_setVr ..).trans (if_neg hq)
      · exact fun q => gpr_congr (by simp) q
      · exact sat_congr (by simp)
      · exact fun i _ => crBit_congr (by simp) i
      · exact fun b => readByte_congr (by simp) b }

/-- Only the target of a whole-vector load, and the count of free values, can differ beside what the entry sets. -/
theorem faultState_entered (i : Instr) (s : State) (k : Interrupt) (syn : Option Word) (addr : Option DWord) :
    Entered k syn addr (partialTarget i) s ((faultState i s).takeInterrupt k syn addr false) := by
  cases i with
  | lvx vd | lvxl vd | lvepx vd | lvepxl vd =>
    obtain ⟨v, hv⟩ := partialLoad_eq s vd
    simp only [faultState, partialTarget, hv]
    exact entered_drawn_setVr s 1 vd v k syn addr
  | _ => exact takeInterrupt_entered s k syn addr

/-- The syndrome of an access in the terms of its kind (rule R453). -/
theorem syndrome_kind (kind : AccessKind) (ext : Bool) :
    syndrome (kind == .store) ext =
      0x00000080 ||| (if kind = .store then 0x00800000 else 0) ||| (if ext = true then 0x00000040 else 0) := by
  simp only [syndrome, beq_iff_eq]

/-- Settles O12: the interrupt every load and store takes, entered with the access's syndrome and address. -/
theorem storageInterruptTaken : Obligations.StorageInterruptTaken := by
  intro i s a f ha hs hx ht
  refine ⟨_, exec_storageInterrupt ha hs hx ht, ?_⟩
  rw [← syndrome_kind]
  cases f with
  | dataStorage => exact faultState_entered i s .dataStorage _ _
  | dataTLBError => exact faultState_entered i s .dataTLBError _ _

end Sys2Proof.Machine
end

section
/-! The decoder: what it reads from a word of each form, that it reads back what the encoder wrote, and that the
reserved fields do not matter to it. -/

namespace Sys2Proof

open Sys2Proof.Machine

/-! ### Words and their bytes -/

/-- The decoder accepts a word where some row matches it. -/
theorem decode_eq_ok_iff {w : BitVec 32} {i : Instr} : decode w = .ok i ↔ decodeOpt w = some i := by
  unfold decode
  split <;> simp_all

/-- The four bytes of a word, put together again (rules R52, R80). -/
theorem insnField_bytes_append (w : BitVec 32) :
    insnField w 0 8 ++ insnField w 8 8 ++ insnField w 16 8 ++ insnField w 24 8 = w := by
  refine BitVec.eq_of_getLsbD_eq fun k hk => ?_
  simp only [insnField, BitVec.getLsbD_append]
  interval_cases k <;> simp

theorem decodeBytes_wordBytes (w : BitVec 32) : decodeBytes (wordBytes w.toNat) = (decode w, []) := by
  simp only [wordBytes, BitVec.ofNat_toNat, BitVec.setWidth_eq, decodeBytes]
  exact congrArg (fun v => (decode v, [])) (insnField_bytes_append w)

theorem encodeBytes_eq_wordBytes (i : Instr) : encodeBytes i = wordBytes (encode i).toNat := by
  simp only [encodeBytes, wordBytes, BitVec.ofNat_toNat, BitVec.setWidth_eq]

theorem decodeTableWord_toNat {w : BitVec 32} {i : Instr} (h : decode w = .ok i) :
    decodeTableWord 32 w.toNat = some i := by
  simp only [decodeTableWord, Nat.mod_eq_of_lt w.isLt, decodeBytes_wordBytes, h]

/-! ### One row of each form -/

section Rows

variable {xo : Nat} {d a b c : Reg} {rc : Bool} {i : Instr}

/-- A row of the VX table has none of the extended opcodes that rule R86 gives to the VA and VXR forms. -/
theorem decodeVX_some (h : decodeVX xo d a b = some i) : xo < 2048 ∧ xo % 64 < 32 ∧ xo % 64 ≠ 6 := by
  unfold decodeVX at h
  split at h <;> cases h <;> decide

theorem decodeVXR_some (h : decodeVXR xo d a b rc = some i) : xo < 1024 ∧ xo % 64 = 6 := by
  unfold decodeVXR at h
  split at h <;> cases h <;> decide

theorem decodeVA_some (h : decodeVA xo d a b c = some i) : xo < 64 ∧ 32 ≤ xo := by
  unfold decodeVA at h
  split at h <;> cases h <;> decide

theorem decodeX_some (h : decodeX xo d a b = some i) : xo < 1024 := by
  unfold decodeX at h
  split at h <;> cases h <;> decide

theorem decode_wordVX (h : decodeVX xo d a b = some i) : decode (wordVX xo d a b) = .ok i := by
  obtain ⟨hxo, hva, hvxr⟩ := decodeVX_some h
  rw [decode_eq_ok_iff, decodeOpt_wordVX hxo hva hvxr, h]

theorem decode_wordVXR (h : decodeVXR xo d a b rc = some i) : decode (wordVXR xo d a b rc) = .ok i := by
  obtain ⟨hxo, hvxr⟩ := decodeVXR_some h
  rw [decode_eq_ok_iff, decodeOpt_wordVXR hxo hvxr, h]

theorem decode_wordVA (h : decodeVA xo d a b c = some i) : decode (wordVA xo d a b c) = .ok i := by
  obtain ⟨hxo, hva⟩ := decodeVA_some h
  rw [decode_eq_ok_iff, decodeOpt_wordVA hxo hva, h]

/-- A load, store or move of primary opcode 31 (rule R96). -/
theorem decode_wordX (h : decodeX xo d a b = some i) : decode (wordX xo d a b) = .ok i := by
  rw [decode_eq_ok_iff, decodeOpt_wordX (decodeX_some h), h]

/-- A stream row: no load, store or move shares its extended opcode (rule R87). -/
theorem decode_wordX_stream (hxo : xo < 1024) (hX : decodeX xo d a b = none) (h : decodeStream xo d a b = some i) :
    decode (wordX xo d a b) = .ok i := by
  rw [decode_eq_ok_iff, decodeOpt_wordX hxo, hX, h]

/-- A base row of primary opcode 31: no other row of it shares its extended opcode (rules R423, R428, R429). -/
theorem decode_wordX_base (hxo : xo < 1024) (hX : decodeX xo d a b = none) (hS : decodeStream xo d a b = none)
    (h : decodeBase31 xo d a b false = some i) : decode (wordX xo d a b) = .ok i := by
  rw [decode_eq_ok_iff, decodeOpt_wordX hxo, hX, hS, h]

end Rows

theorem decode_addi (rd ra : Reg) (imm : BitVec 16) : decode (wordD 14 rd ra imm) = .ok (.addi rd ra imm) := by
  obtain ⟨hop, hd, ha, himm⟩ := wordD_fields 14 rd ra imm
  simp [decode_eq_ok_iff, decodeOpt, hop, hd, ha, himm]

theorem decode_addis (rd ra : Reg) (imm : BitVec 16) : decode (wordD 15 rd ra imm) = .ok (.addis rd ra imm) := by
  obtain ⟨hop, hd, ha, himm⟩ := wordD_fields 15 rd ra imm
  simp [decode_eq_ok_iff, decodeOpt, hop, hd, ha, himm]

/-- The source of `ori` is the first register field, its target the second (rule R427). -/
theorem decode_ori (rs ra : Reg) (imm : BitVec 16) : decode (wordD 24 rs ra imm) = .ok (.ori ra rs imm) := by
  obtain ⟨hop, hd, ha, himm⟩ := wordD_fields 24 rs ra imm
  simp [decode_eq_ok_iff, decodeOpt, hop, hd, ha, himm]

theorem decode_bc (bo bi : BitVec 5) (bd : BitVec 14) : decode (wordB bo bi bd) = .ok (.bc bo bi bd) := by
  obtain ⟨hop, hbo, hbi, hbd, hlow⟩ := wordB_fields bo bi bd
  simp [decode_eq_ok_iff, decodeOpt, hop, hbo, hbi, hbd, hlow]

theorem decode_b (li : BitVec 24) : decode (wordI li) = .ok (.b li) := by
  obtain ⟨hop, hli, hlow⟩ := wordI_fields li
  simp [decode_eq_ok_iff, decodeOpt, hop, hli, hlow]

/-- Of `rfi` only the two opcodes are read (rules R94, R451). -/
theorem decode_rfi {w : BitVec 32} (hop : insnField w 0 6 = 19#6) (hxo : insnField w 21 10 = 50#10) :
    decode w = .ok .rfi := by
  simp [decode_eq_ok_iff, decodeOpt, hop, hxo]

/-! ### The stream rows: bit 6 names the instruction, bits 9 and 10 are STRM (rule R87) -/

theorem decode_dst (d a b : Reg) :
    decode (wordX 342 d a b) = .ok (if d.getLsbD 4 then .dstt (d.setWidth 2) a b else .dst (d.setWidth 2) a b) :=
  decode_wordX_stream (by decide) rfl (by unfold decodeStream; cases d.getLsbD 4 <;> rfl)

theorem decode_dstst (d a b : Reg) :
    decode (wordX 374 d a b) = .ok (if d.getLsbD 4 then .dststt (d.setWidth 2) a b else .dstst (d.setWidth 2) a b) :=
  decode_wordX_stream (by decide) rfl (by unfold decodeStream; cases d.getLsbD 4 <;> rfl)

theorem decode_dss (d a b : Reg) :
    decode (wordX 822 d a b) = .ok (if d.getLsbD 4 then .dssall (d.setWidth 2) else .dss (d.setWidth 2)) :=
  decode_wordX_stream (by decide) rfl (by unfold decodeStream; cases d.getLsbD 4 <;> rfl)

theorem streamField_getLsbD_four (t : Bool) (strm : BitVec 2) : (streamField t strm).getLsbD 4 = t := by
  simp only [streamField, BitVec.getLsbD_append]
  cases t <;> rfl

theorem setWidth_streamField (t : Bool) (strm : BitVec 2) : (streamField t strm).setWidth 2 = strm :=
  BitVec.setWidth_append_eq_right

/-! ### Decoding what the encoder wrote -/

/-- The SPR number is made of two fields, its low half first (rules R428, R429). -/
theorem spr_halves_append (spr : BitVec 10) : spr.extractLsb' 5 5 ++ spr.setWidth 5 = spr := by
  refine BitVec.eq_of_getLsbD_eq fun k hk => ?_
  simp only [BitVec.getLsbD_append]
  interval_cases k <;> simp

/-- An element number keeps its value in the wider field of a splat or of `vsldoi`. -/
theorem setWidth_setWidth_five {n : Nat} (hn : n ≤ 5) (v : BitVec n) : (v.setWidth 5).setWidth n = v := by
  rw [BitVec.setWidth_setWidth_of_le _ hn, BitVec.setWidth_eq]

/-- One row of the instruction's form reads the word; the operands that share a field with reserved bits (`vsplt*`,
`vsldoi`, the streams) or lie in two fields (the SPR number) come back whole. The last case is the VX form. -/
theorem decode_encode (i : Instr) : decode (encode i) = .ok i := by
  cases i with
  | lvsl | lvebx | lvsr | lvehx | mviwsplt | lvewx | lvx | mvidsplt | stvebx | stvehx | stvewx | stvx | lvexbx | lvepxl
  | lvexhx | lvepx | lvexwx | lvxl | stvexbx | stvexhx | stvexwx | stvxl | lvtrx | lvtlx | lvswx | stvfrx | stvflx
  | stvswx | lvsm | stvepxl | lvtrxl | stvepx | lvtlxl | lvswxl | stvfrxl | stvflxl | stvswxl => exact decode_wordX rfl
  | dst | dstt =>
    simp only [encode, decode_dst, streamField_getLsbD_four, setWidth_streamField, Bool.false_eq_true, reduceIte]
  | dstst | dststt =>
    simp only [encode, decode_dstst, streamField_getLsbD_four, setWidth_streamField, Bool.false_eq_true, reduceIte]
  | dss | dssall =>
    simp only [encode, decode_dss, streamField_getLsbD_four, setWidth_streamField, Bool.false_eq_true, reduceIte]
  | vcmpequb | vcmpequh | vcmpequw | vcmpeqfp | vcmpgefp | vcmpgtub | vcmpgtuh | vcmpgtuw | vcmpgtfp | vcmpgtsb
  | vcmpgtsh | vcmpgtsw | vcmpbfp => exact decode_wordVXR rfl
  | vmhaddshs | vmhraddshs | vmladduhm | vmsumubm | vmsummbm | vmsumuhm | vmsumuhs | vmsumshm | vmsumshs | vsel | vperm
  | vmaddfp | vnmsubfp => exact decode_wordVA rfl
  | vsldoi vd va vb shb =>
    exact decode_wordVA (by rw [decodeVA, setWidth_setWidth_five (by decide)])
  | vspltb vd vb uimm | vsplth vd vb uimm | vspltw vd vb uimm =>
    exact decode_wordVX (by rw [decodeVX, setWidth_setWidth_five (by decide)])
  | addi => exact decode_addi ..
  | addis => exact decode_addis ..
  | ori => exact decode_ori ..
  | bc => exact decode_bc ..
  | b => exact decode_b ..
  | rfi => exact decode_rfi (wordXL_fields 50).1 (wordXL_fields 50).2
  | srawi => exact decode_wordX_base (by decide) rfl rfl rfl
  | mfspr rd spr | mtspr spr rs =>
    exact decode_wordX_base (by decide) rfl rfl (by rw [decodeBase31, spr_halves_append])
  | _ => exact decode_wordVX rfl

/-- Settles O3: the decoder inverts the encoder, and the bytes of a word are the word. -/
theorem decodeOfEncode : Obligations.DecodeOfEncode := fun i =>
  have h := decode_encode i
  ⟨h, by rw [encodeBytes_eq_wordBytes, decodeBytes_wordBytes, h], decodeTableWord_toNat h⟩

/-! ### The worked encodings -/

theorem decode_of_encode_eq {w : BitVec 32} {i : Instr} (h : encode i = w) : decode w = .ok i := h ▸ decode_encode i

/-- Settles O4: each word is what the encoder writes for the instruction beside it. -/
theorem workedEncodingsDecode : Obligations.WorkedEncodingsDecode :=
  ⟨decode_of_encode_eq rfl, decode_of_encode_eq rfl, decode_of_encode_eq rfl, decode_of_encode_eq rfl,
    decode_of_encode_eq rfl, decode_of_encode_eq rfl, decode_of_encode_eq rfl, decode_of_encode_eq rfl⟩

/-! ### Reserved fields -/

/-- Setting bit 31 of a word leaves every field before it. -/
theorem insnField_or_one (w : BitVec 32) {i n : Nat} (h : i + n ≤ 31) :
    insnField (w ||| 1#32) i n = insnField w i n := by
  refine insnField_eq fun k hk => ?_
  have hpos : 32 - i - n ≠ 0 := by omega
  simp [insnField, hk, hpos]

/-- Bit 31 of an X-form word is read by the base rows alone. -/
theorem decodeOpt_wordX_or_one {xo : Nat} (hxo : xo < 1024) (d a b : Reg) :
    decodeOpt (wordX xo d a b ||| 1#32) =
      (decodeX xo d a b).or ((decodeStream xo d a b).or (decodeBase31 xo d a b true)) := by
  obtain ⟨hop, hd, ha, hb, hx, -⟩ := wordX_fields xo d a b
  have hrc : insnField (wordX xo d a b ||| 1#32) 31 1 = 1#1 := insnField_eq fun k hk => by simp [show k = 0 by omega]
  have hxo' : (BitVec.ofNat 10 xo).toNat = xo := by simp; omega
  simp only [decodeOpt, decode31, insnField_or_one, hop, hd, ha, hb, hx, hrc, hxo', Nat.reduceAdd, Nat.reduceLeDiff]
  cases decodeX xo d a b <;> cases decodeStream xo d a b <;> rfl

theorem kindOf_decodeBase31 {xo : Nat} {d a b : Reg} {rc : Bool} {i : Instr} (h : decodeBase31 xo d a b rc = some i) :
    kindOf i = .base := by
  unfold decodeBase31 at h
  split at h
  case h_1 =>
    split at h <;> cases h
    rfl
  all_goals cases h <;> rfl

/-- The AltiVec rows of primary opcode 31 have bit 31 reserved; only a base row can read it. -/
theorem decode_wordX_or_one {xo : Nat} {d a b : Reg} {i : Instr} (hxo : xo < 1024)
    (h : decode (wordX xo d a b) = .ok i) (hk : kindOf i ≠ .base) : decode (wordX xo d a b ||| 1#32) = .ok i := by
  rw [decode_eq_ok_iff, decodeOpt_wordX hxo] at h
  rw [decode_eq_ok_iff, decodeOpt_wordX_or_one hxo]
  cases hX : decodeX xo d a b with
  | some j => simpa [hX] using h
  | none =>
    cases hS : decodeStream xo d a b with
    | some j => simpa [hX, hS] using h
    | none => exact absurd (kindOf_decodeBase31 (by simpa [hX, hS] using h)) hk

theorem decode_rfi_reserved (r : BitVec 15) (l : BitVec 1) : decode (19#6 ++ r ++ 50#10 ++ l) = .ok .rfi := by
  refine decode_rfi ?_ ?_ <;> refine insnField_eq fun k hk => ?_ <;>
    simp only [BitVec.getLsbD_append] <;> interval_cases k <;> simp

/-- Settles O5: the rows of the tables do not name their reserved fields. -/
theorem reservedFieldsIgnored : Obligations.ReservedFieldsIgnored := by
  intro d a b
  refine ⟨?_, ?_, ?_, ?_, ?_, ?_, ?_, ?_, ?_, ?_, ?_, ?_, ?_, ?_, ?_, ?_, ?_, ?_, ?_, ?_, ?_, ?_,
    fun c => decode_wordVA rfl, fun xo i hxo h hk => decode_wordX_or_one hxo h hk, decode_dss d a b, decode_dst d a b,
    decode_dstst d a b, decode_rfi_reserved⟩ <;> exact decode_wordVX rfl

end Sys2Proof
end

section
/-! Integer add, subtract, average, absolute difference, maximum and minimum: the rule of an instruction that works element
by element, and what each element operation gives. -/

namespace Sys2Proof.Machine

open Sys2Proof

/-! ### Instructions that work element by element -/

section
variable {i : Instr} {n k : Nat} {s : State} {vd va vb : Reg}

/-- Elements that fill a vector have a width. -/
theorem width_pos (hk : n * k = 128) : 0 < n :=
  Nat.pos_of_mul_pos_right (hk ▸ (by decide : 0 < 128))

/-- An instruction of two sources that applies `g` to each pair of elements. -/
theorem vectorRule_elementwise (hk : n * k = 128) {g : BitVec n → BitVec n → BitVec n}
    {R : BitVec n → BitVec n → BitVec n → Prop} (hR : ∀ a b, R a b (g a b))
    (h : exec i s = vec2 (fun a b => build n k fun j => g (elem n a j) (elem n b j)) vd va vb s) :
    VectorRule i s [.vr vd] fun t => Elems2 n k s t vd va vb R := by
  refine vectorRule_vec2 h fun t ht j hj => ?_
  rw [ht, elem_build n (width_pos hk) k _ j hk hj]
  exact hR _ _

/-- The same with saturation: SAT is ORed with the flags of the elements (rule R25). -/
theorem satRule2_elementwise (hk : n * k = 128) {g : BitVec n → BitVec n → BitVec n × Bool}
    {R : BitVec n → BitVec n → BitVec n → Prop} {out : BitVec n → BitVec n → Prop}
    (hR : ∀ a b, R a b (g a b).1) (hout : ∀ a b, (g a b).2 = true ↔ out a b)
    (h : exec i s = vec2Sat (fun a b => buildSat n k fun j => g (elem n a j) (elem n b j)) vd va vb s) :
    SatRule2 i n k s vd va vb R out := by
  refine vectorRule_vec2Sat h fun t hv hsat => ⟨fun j hj => ?_, ?_⟩
  · rw [hv, buildSat, elem_build n (width_pos hk) k _ j hk hj]
    exact hR _ _
  · simp only [SatAfter, hsat, buildSat, Bool.or_eq_true, anySat_iff, hout]

end

/-! ### Saturation (rules R11, R27) -/

/-- The value of `satU` is the integer clamped to the unsigned range. -/
theorem satU_toNat (n : Nat) (x : Int) : ((satU n x).1.toNat : Int) = clampU n x := by
  have hpos : (0 : Int) < 2 ^ n := by positivity
  unfold satU clampU
  split_ifs with hlo hhi
  · rw [show (0 : BitVec n).toNat = 0 from BitVec.toNat_zero]
    omega
  · simp only [BitVec.toNat_allOnes]
    push_cast [Nat.one_le_two_pow]
    omega
  · rw [BitVec.toNat_ofInt]
    push_cast
    rw [Int.emod_eq_of_lt (by omega) (by omega)]
    omega

/-- The value of `satS` is the integer clamped to the signed range. -/
theorem satS_toInt {n : Nat} (hn : 0 < n) (x : Int) : (satS n x).1.toInt = clampS n x := by
  have hpos : (0 : Int) < 2 ^ (n - 1) := by positivity
  unfold satS clampS
  split_ifs with hlo hhi <;> rw [BitVec.toInt_ofInt_eq_self hn (by omega) (by omega)] <;> omega

section
variable {i : Instr} {n k : Nat} {s : State} {vd va vb : Reg} {x : BitVec n → BitVec n → Int}

/-- A saturating instruction whose exact result on each pair of elements is `x`, cut to the unsigned range. -/
theorem satRule2_satU (hk : n * k = 128)
    (h : exec i s = vec2Sat (fun a b => buildSat n k fun j => satU n (x (elem n a j) (elem n b j))) vd va vb s) :
    SatRule2 i n k s vd va vb (fun a b d => (d.toNat : Int) = clampU n (x a b)) (fun a b => outU n (x a b)) :=
  satRule2_elementwise hk (g := fun a b => satU n (x a b)) (fun _ _ => satU_toNat n _) (fun _ _ => satU_flag n _) h

/-- The same with the signed range. -/
theorem satRule2_satS (hk : n * k = 128)
    (h : exec i s = vec2Sat (fun a b => buildSat n k fun j => satS n (x (elem n a j) (elem n b j))) vd va vb s) :
    SatRule2 i n k s vd va vb (fun a b d => d.toInt = clampS n (x a b)) (fun a b => outS n (x a b)) :=
  satRule2_elementwise hk (g := fun a b => satS n (x a b)) (fun _ _ => satS_toInt (width_pos hk) _) (fun _ _ => satS_flag n _) h

end

/-! ### The element operations -/

section
variable {n : Nat} (a b : BitVec n)

/-- A modulo difference, in the integers (rules R122 to R124). -/
theorem sub_toNat_emod : ((a - b).toNat : Int) = ((a.toNat : Int) - b.toNat) % 2 ^ n := by
  have ha := a.isLt
  have hb := b.isLt
  rw [BitVec.toNat_sub]
  push_cast [hb.le]
  rw [← Int.add_emod_left (2 ^ n) (a.toNat - b.toNat : Int)]
  congr 1
  ring

/-- The rounded half sum of two unsigned elements is an element: no bit of it is cut (rules R132 to R134). -/
theorem avgU_toNat : (avgU a b).toNat = (a.toNat + b.toNat + 1) / 2 := by
  have ha := a.isLt
  have hb := b.isLt
  rw [avgU, BitVec.toNat_ofNat, Nat.mod_eq_of_lt (by omega)]

/-- The same for signed elements (rules R135 to R137). -/
theorem avgS_toInt (hn : 0 < n) : (avgS a b).toInt = (a.toInt + b.toInt + 1) / 2 := by
  have hal := a.le_toInt
  have hau := a.toInt_lt
  have hbl := b.le_toInt
  have hbu := b.toInt_lt
  rw [avgS, BitVec.toInt_ofInt_eq_self hn (by omega) (by omega)]

/-- The distance of two unsigned elements is an element (rules R138 to R140). -/
theorem absDiffU_toNat : ((absDiffU a b).toNat : Int) = |(a.toNat : Int) - b.toNat| := by
  have ha := a.isLt
  have hb := b.isLt
  rw [absDiffU, BitVec.toNat_ofNat, Nat.mod_eq_of_lt (by omega), Int.natCast_natAbs]

theorem maxU_toNat : (maxU a b).toNat = max a.toNat b.toNat := by
  unfold maxU
  split_ifs <;> omega

theorem maxS_toInt : (maxS a b).toInt = max a.toInt b.toInt := by
  unfold maxS
  split_ifs <;> omega

theorem minU_toNat : (minU a b).toNat = min a.toNat b.toNat := by
  unfold minU
  split_ifs <;> omega

theorem minS_toInt : (minS a b).toInt = min a.toInt b.toInt := by
  unfold minS
  split_ifs <;> omega

end

/-- The carry out of a word sum is the quotient of the sum by 2^32 (rule R115). -/
theorem carryOut_toNat (a b : Word) : (carryOut a b).toNat = (a.toNat + b.toNat) / 2 ^ 32 := by
  have ha := a.isLt
  have hb := b.isLt
  unfold carryOut
  split_ifs
  · rw [show (1 : Word).toNat = 1 from rfl]
    omega
  · rw [show (0 : Word).toNat = 0 from rfl]
    omega

theorem subCarryOut_toNat (a b : Word) : (subCarryOut a b).toNat = if b.toNat ≤ a.toNat then 1 else 0 := by
  unfold subCarryOut
  split_ifs <;> rfl

/-! ### The instructions -/

/-- Settles O24: an element sum or difference is that of `BitVec`, and a carry word is the carry of its elements. -/
theorem moduloAddSubtractResults : Obligations.ModuloAddSubtractResults := fun _ _ _ _ =>
  ⟨vectorRule_elementwise rfl BitVec.toNat_add rfl,
    vectorRule_elementwise rfl BitVec.toNat_add rfl,
    vectorRule_elementwise rfl BitVec.toNat_add rfl,
    vectorRule_elementwise rfl carryOut_toNat rfl,
    vectorRule_elementwise rfl sub_toNat_emod rfl,
    vectorRule_elementwise rfl sub_toNat_emod rfl,
    vectorRule_elementwise rfl sub_toNat_emod rfl,
    vectorRule_elementwise rfl subCarryOut_toNat rfl⟩

/-- Settles O25: each element is `satU` or `satS` of the exact sum or difference, and SAT collects their flags. -/
theorem saturatingAddSubtractResults : Obligations.SaturatingAddSubtractResults := fun _ _ _ _ =>
  ⟨satRule2_satU rfl rfl, satRule2_satU rfl rfl, satRule2_satU rfl rfl,
    satRule2_satS rfl rfl, satRule2_satS rfl rfl, satRule2_satS rfl rfl,
    satRule2_satU rfl rfl, satRule2_satU rfl rfl, satRule2_satU rfl rfl,
    satRule2_satS rfl rfl, satRule2_satS rfl rfl, satRule2_satS rfl rfl⟩

/-- Settles O26: an average or an absolute difference of two elements fits in an element. -/
theorem averageAndDifferenceResults : Obligations.AverageAndDifferenceResults := fun _ _ _ _ =>
  ⟨vectorRule_elementwise rfl avgU_toNat rfl,
    vectorRule_elementwise rfl avgU_toNat rfl,
    vectorRule_elementwise rfl avgU_toNat rfl,
    vectorRule_elementwise rfl (avgS_toInt · · (by decide)) rfl,
    vectorRule_elementwise rfl (avgS_toInt · · (by decide)) rfl,
    vectorRule_elementwise rfl (avgS_toInt · · (by decide)) rfl,
    vectorRule_elementwise rfl absDiffU_toNat rfl,
    vectorRule_elementwise rfl absDiffU_toNat rfl,
    vectorRule_elementwise rfl absDiffU_toNat rfl⟩

/-- Settles O27: each element operation chooses by the comparison of the integers. -/
theorem maximumMinimumResults : Obligations.MaximumMinimumResults := fun _ _ _ _ =>
  ⟨vectorRule_elementwise rfl maxU_toNat rfl,
    vectorRule_elementwise rfl maxU_toNat rfl,
    vectorRule_elementwise rfl maxU_toNat rfl,
    vectorRule_elementwise rfl maxS_toInt rfl,
    vectorRule_elementwise rfl maxS_toInt rfl,
    vectorRule_elementwise rfl maxS_toInt rfl,
    vectorRule_elementwise rfl minU_toNat rfl,
    vectorRule_elementwise rfl minU_toNat rfl,
    vectorRule_elementwise rfl minU_toNat rfl,
    vectorRule_elementwise rfl minS_toInt rfl,
    vectorRule_elementwise rfl minS_toInt rfl,
    vectorRule_elementwise rfl minS_toInt rfl⟩

end Sys2Proof.Machine
end

section
/-! Integer multiply, multiply-add, multiply-sum and sum across: the rule of an instruction that builds its result element
by element from any elements of its sources, the exact products and sums, and the instructions. -/

namespace Sys2Proof.Machine

open Sys2Proof

/-! ### Instructions that build their result element by element -/

section
variable {i : Instr} {n k : Nat} {s : State} {vd : Reg}

/-- An instruction whose result has the elements `f j`, where `val`, a reading of elements as numbers, gives `x j`. -/
theorem vectorRule_build {β : Type} {val : BitVec n → β} {f : Nat → BitVec n} {x : Nat → β} (hk : n * k = 128)
    (h : exec i s = requireSpv s (complete s vd (build n k f))) (hx : ∀ j, val (f j) = x j) :
    VectorRule i s [.vr vd] fun t => ∀ j < k, val (elem n (t.vr vd) j) = x j := by
  refine vectorRule_of_requireSpv h fun _ => ⟨_, rfl, rfl, fun j hj => ?_, frame_setVr ..⟩
  rw [← hx j, ← elem_build n (width_pos hk) k f j hk hj]
  exact congrArg (fun v => val (elem n v j)) (vr_setVr_same ..)

/-- What a saturating instruction leaves when its vector is built element by element: the elements, and SAT set where one
of them saturated (rule R25). -/
theorem vectorRule_buildSat {f : Nat → BitVec n × Bool} {E : State → Prop} (hk : n * k = 128)
    (h : exec i s = requireSpv s (completeSat s vd (buildSat n k f)))
    (hE : ∀ t : State, (∀ j < k, elem n (t.vr vd) j = (f j).1) → (SatAfter s t k fun j => (f j).2 = true) → E t) :
    VectorRule i s [.vr vd, .sat] E := by
  refine vectorRule_of_requireSpv h fun _ => ?_
  obtain ⟨t, ht, hpc, ⟨hv, hsat⟩, hframe⟩ := completeSat_spec s vd (buildSat n k f)
  refine ⟨t, ht, hpc, hE t (fun j hj => ?_) ?_, hframe⟩
  · rw [hv, buildSat, elem_build n (width_pos hk) k _ j hk hj]
  · simp only [SatAfter, hsat, buildSat, Bool.or_eq_true, anySat_iff]

/-- `satU` flags the integers outside the unsigned range. -/
theorem satU_out (n : Nat) (x : Int) : (satU n x).2 = true ↔ outU n x := satU_flag n x

/-- The same with the signed range. -/
theorem satS_out (n : Nat) (x : Int) : (satS n x).2 = true ↔ outS n x := satS_flag n x

/-- A saturating instruction whose exact results are `x j`, each clamped to the unsigned range. -/
theorem vectorRule_buildSatU {y x : Nat → Int} (hk : n * k = 128)
    (h : exec i s = requireSpv s (completeSat s vd (buildSat n k fun j => satU n (y j)))) (hx : ∀ j, y j = x j) :
    VectorRule i s [.vr vd, .sat] fun t =>
      (∀ j < k, ((elem n (t.vr vd) j).toNat : Int) = clampU n (x j)) ∧ SatAfter s t k fun j => outU n (x j) := by
  refine vectorRule_buildSat hk h fun t hv hsat => ⟨fun j hj => ?_, ?_⟩
  · rw [hv j hj, satU_toNat, hx]
  · simpa only [SatAfter, satU_out, hx] using hsat

/-- The same with the signed range. -/
theorem vectorRule_buildSatS {y x : Nat → Int} (hk : n * k = 128)
    (h : exec i s = requireSpv s (completeSat s vd (buildSat n k fun j => satS n (y j)))) (hx : ∀ j, y j = x j) :
    VectorRule i s [.vr vd, .sat] fun t =>
      (∀ j < k, (elem n (t.vr vd) j).toInt = clampS n (x j)) ∧ SatAfter s t k fun j => outS n (x j) := by
  refine vectorRule_buildSat hk h fun t hv hsat => ⟨fun j hj => ?_, ?_⟩
  · rw [hv j hj, satS_toInt (width_pos hk), hx]
  · simpa only [SatAfter, satS_out, hx] using hsat

end

/-! ### Products and sums -/

section
variable {n : Nat}

/-- No bit of an unsigned product is cut in twice the width. -/
theorem mulU_toNat (x y : BitVec n) : (mulU (n * 2) x y).toNat = x.toNat * y.toNat := by
  rw [mulU, BitVec.toNat_ofNat, Nat.mod_eq_of_lt BitVec.toNat_mul_toNat_lt]

/-- The same for a signed product, whose greatest value is the square of the least element. -/
theorem mulS_toInt (hn : 0 < n) (x y : BitVec n) : (mulS (n * 2) x y).toInt = x.toInt * y.toInt := by
  have hle : x.toInt * y.toInt ≤ 2 ^ (n * 2 - 2) := BitVec.toInt_mul_toInt_le
  have hge : -2 ^ (n * 2 - 2) ≤ x.toInt * y.toInt := BitVec.le_toInt_mul_toInt
  have hlt : (2 : Int) ^ (n * 2 - 2) < 2 ^ (n * 2 - 1) := pow_lt_pow_right₀ (by decide) (by omega)
  rw [mulS, BitVec.toInt_ofInt_eq_self (by omega) (by omega) (by omega)]

/-- An exact integer cut to `n` bits is its residue (rule R11). -/
theorem uint_ofInt (x : Int) : uint (BitVec.ofInt n x) = x % 2 ^ n := by
  rw [uint, BitVec.toNat_ofInt, Int.toNat_of_nonneg (Int.emod_nonneg _ (by positivity))]
  push_cast
  rfl

/-- The same for a natural number. -/
theorem toNat_ofInt_natCast {x : Int} {m : Nat} (h : x = m) : (BitVec.ofInt n x).toNat = m % 2 ^ n := by
  rw [h, BitVec.ofInt_natCast, BitVec.toNat_ofNat]

end

theorem sumTo_two (f : Nat → Int) : sumTo 2 f = f 0 + f 1 := by
  simp only [sumTo, zero_add]

theorem sumTo_four (f : Nat → Int) : sumTo 4 f = f 0 + f 1 + f 2 + f 3 := by
  simp only [sumTo, zero_add]

/-- The multiply-sum over bytes, the products first and then the addend (rules R182, R183). -/
theorem byteSum_eq (fa fb : Byte → Int) (a b : Vec) (c : Int) (i : Nat) :
    byteSum fa fb a b c i =
      fa (byte a (4 * i)) * fb (byte b (4 * i)) + fa (byte a (4 * i + 1)) * fb (byte b (4 * i + 1)) +
      fa (byte a (4 * i + 2)) * fb (byte b (4 * i + 2)) + fa (byte a (4 * i + 3)) * fb (byte b (4 * i + 3)) + c := by
  rw [byteSum, sumTo_four, add_comm, add_zero]

/-- The same over half-words (rules R184 to R187). -/
theorem halfSum_eq (f : Half → Int) (a b : Vec) (c : Int) (i : Nat) :
    halfSum f a b c i =
      f (half a (2 * i)) * f (half b (2 * i)) + f (half a (2 * i + 1)) * f (half b (2 * i + 1)) + c := by
  rw [halfSum, sumTo_two, add_comm, add_zero]

/-- The sum of the four bytes of word position `i` and an addend, the bytes first (rules R190, R191). -/
theorem sumBytes_eq (f : Byte → Int) (a : Vec) (c : Int) (i : Nat) :
    (c + sumTo 4 fun j => f (byte a (4 * i + j))) =
      f (byte a (4 * i)) + f (byte a (4 * i + 1)) + f (byte a (4 * i + 2)) + f (byte a (4 * i + 3)) + c := by
  rw [sumTo_four, add_comm, add_zero]

/-- The same for the two half-words (rule R192). -/
theorem sumHalves_eq (f : Half → Int) (a : Vec) (c : Int) (i : Nat) :
    (c + sumTo 2 fun j => f (half a (2 * i + j))) = f (half a (2 * i)) + f (half a (2 * i + 1)) + c := by
  rw [sumTo_two, add_comm, add_zero]

/-- `vsumsws` with its sum in the order of the operands: it is in word 3, and the other words are zero (rule R188). -/
theorem sumAcross_eq (a b : Vec) :
    let r := satS 32 ((word a 0).toInt + (word a 1).toInt + (word a 2).toInt + (word a 3).toInt + (word b 3).toInt)
    sumAcross a b = (ofWords fun i => if i = 3 then r.1 else 0, r.2) := by
  rw [sumAcross, sumTo_four, add_comm]
  rfl

/-- Word `i` of `vsum2sws` with its flag (rule R189). -/
def sumHalfElem (a b : Vec) (i : Nat) : Word × Bool :=
  if i % 2 = 1 then satS 32 (sint (word b i) + sint (word a (i - 1)) + sint (word a i)) else (0, false)

theorem exec_vsum2sws (s : State) (vd va vb : Reg) :
    exec (.vsum2sws vd va vb) s =
      requireSpv s (completeSat s vd (buildSat 32 4 (sumHalfElem (s.vr va) (s.vr vb)))) := rfl

theorem sumHalfElem_even (a b : Vec) (j : Nat) : sumHalfElem a b (2 * j) = (0, false) :=
  if_neg (by omega)

theorem sumHalfElem_odd (a b : Vec) (j : Nat) :
    sumHalfElem a b (2 * j + 1) =
      satS 32 ((word a (2 * j)).toInt + (word a (2 * j + 1)).toInt + (word b (2 * j + 1)).toInt) := by
  rw [sumHalfElem, if_pos (by omega), Nat.add_sub_cancel, add_assoc, add_comm]
  rfl

/-- `vsum2sws` saturates where one of its two sums does: the words that hold none set no flag. -/
theorem exists_sumHalfElem_flag (a b : Vec) :
    (∃ i < 4, (sumHalfElem a b i).2 = true) ↔
      ∃ j < 2, outS 32 ((word a (2 * j)).toInt + (word a (2 * j + 1)).toInt + (word b (2 * j + 1)).toInt) := by
  constructor
  · rintro ⟨i, hi, hflag⟩
    obtain ⟨j, rfl | rfl⟩ := Nat.even_or_odd' i
    · rw [sumHalfElem_even] at hflag
      exact absurd hflag Bool.false_ne_true
    · rw [sumHalfElem_odd] at hflag
      exact ⟨j, by omega, (satS_out ..).1 hflag⟩
  · rintro ⟨j, hj, hout⟩
    refine ⟨2 * j + 1, by omega, ?_⟩
    rw [sumHalfElem_odd]
    exact (satS_out ..).2 hout

/-! ### The instructions -/

/-- Settles O28: an element of the result is the product of two elements in twice their width. -/
theorem multiplyEvenOddResults : Obligations.MultiplyEvenOddResults := fun _ _ _ _ =>
  ⟨vectorRule_build rfl rfl fun _ => mulU_toNat _ _,
    vectorRule_build rfl rfl fun _ => mulU_toNat _ _,
    vectorRule_build rfl rfl fun _ => mulS_toInt (by decide) _ _,
    vectorRule_build rfl rfl fun _ => mulS_toInt (by decide) _ _,
    vectorRule_build rfl rfl fun _ => mulU_toNat _ _,
    vectorRule_build rfl rfl fun _ => mulU_toNat _ _,
    vectorRule_build rfl rfl fun _ => mulS_toInt (by decide) _ _,
    vectorRule_build rfl rfl fun _ => mulS_toInt (by decide) _ _⟩

/-- Settles O29: an element of the result is the residue of the exact multiply-sum. -/
theorem moduloMultiplySumResults : Obligations.ModuloMultiplySumResults := by
  intro s vd va vb vc
  refine ⟨?vmladduhm, ?vmsumubm, ?vmsummbm, ?vmsumuhm, ?vmsumshm⟩
  case vmladduhm =>
    refine vectorRule_build rfl rfl fun j => ?_
    rw [BitVec.toNat_add, BitVec.toNat_mul, Nat.mod_add_mod]
  case vmsumubm =>
    refine vectorRule_build rfl rfl fun j => toNat_ofInt_natCast ?_
    rw [byteSum_eq]
    push_cast
    rfl
  case vmsummbm =>
    refine vectorRule_build (val := uint) rfl rfl fun j => ?_
    rw [uint_ofInt, byteSum_eq]
    rfl
  case vmsumuhm =>
    refine vectorRule_build rfl rfl fun j => toNat_ofInt_natCast ?_
    rw [halfSum_eq]
    push_cast
    rfl
  case vmsumshm =>
    refine vectorRule_build (val := uint) rfl rfl fun j => ?_
    rw [uint_ofInt, halfSum_eq]
    rfl

/-- Settles O30: each element is `satS` or `satU` of the exact result, and SAT collects their flags. -/
theorem saturatingMultiplySumResults : Obligations.SaturatingMultiplySumResults := fun _ _ _ _ _ =>
  ⟨vectorRule_buildSatS rfl rfl fun _ => by rw [add_zero],
    vectorRule_buildSatS rfl rfl fun _ => rfl,
    vectorRule_buildSatU rfl rfl fun _ => halfSum_eq ..,
    vectorRule_buildSatS rfl rfl fun _ => halfSum_eq ..⟩

/-- Settles O31: the words that hold no sum are zero and set no flag. -/
theorem sumAcrossResults : Obligations.SumAcrossResults := by
  intro s vd va vb
  refine ⟨?vsumsws, ?vsum2sws, vectorRule_buildSatU rfl rfl fun _ => sumBytes_eq ..,
    vectorRule_buildSatS rfl rfl fun _ => sumBytes_eq .., vectorRule_buildSatS rfl rfl fun _ => sumHalves_eq ..⟩
  case vsumsws =>
    refine vectorRule_vec2Sat rfl fun t hv hsat => ?_
    intro x
    have hword : ∀ j < 4, word (t.vr vd) j = if j = 3 then (satS 32 x).1 else 0 := fun j hj => by
      rw [hv, sumAcross_eq]
      exact word_ofWords _ j hj
    refine ⟨hword 0 (by decide), hword 1 (by decide), hword 2 (by decide), ?_, ?_⟩
    · rw [hword 3 (by decide)]
      exact satS_toInt (by decide) x
    · rw [hsat, sumAcross_eq, Bool.or_eq_true, satS_out]
  case vsum2sws =>
    refine vectorRule_buildSat rfl (exec_vsum2sws ..) fun t hv hsat => ⟨fun j hj => ⟨?_, ?_⟩, ?_⟩
    · rw [word, hv (2 * j) (by omega), sumHalfElem_even]
    · rw [word, hv (2 * j + 1) (by omega), sumHalfElem_odd]
      exact satS_toInt (by decide) _
    · rwa [SatAfter, exists_sumHalfElem_flag] at hsat

end Sys2Proof.Machine
end

section
/-! Integer compares, logical instructions, rotates and shifts: TRUE and FALSE elements and their record in CR6, the rule
of an instruction that acts bit by bit, and the value of a rotated or shifted element. -/

namespace Sys2Proof.Machine

open Sys2Proof

/-! ### TRUE and FALSE elements (rule R200) -/

/-- `d` is the element that records whether `p` holds: all ones where it does, zero where it does not. -/
def IsMask {n : Nat} (p : Prop) (d : BitVec n) : Prop := (p → d = BitVec.allOnes n) ∧ (¬ p → d = 0)

section
variable {n : Nat}

theorem isMask_truth {p : Prop} {b : Bool} (h : b = true ↔ p) : IsMask p (truth n b) :=
  ⟨fun hp => if_pos (h.2 hp), fun hp => if_neg fun hb => hp (h.1 hb)⟩

theorem isMask_cmpEq (x y : BitVec n) : IsMask (x = y) (cmpEq x y) := isMask_truth beq_iff_eq

theorem isMask_cmpGtU (x y : BitVec n) : IsMask (y.toNat < x.toNat) (cmpGtU x y) := isMask_truth decide_eq_true_iff

theorem isMask_cmpGtS (x y : BitVec n) : IsMask (y.toInt < x.toInt) (cmpGtS x y) := isMask_truth decide_eq_true_iff

/-- TRUE and FALSE differ in an element that has bits. -/
theorem allOnes_ne_zero (hn : 0 < n) : BitVec.allOnes n ≠ 0 := fun h => by
  have hbit := congrArg (fun v : BitVec n => v.getLsbD 0) h
  simp [hn] at hbit

theorem IsMask.eq_allOnes_iff {p : Prop} {d : BitVec n} (h : IsMask p d) (hn : 0 < n) : d = BitVec.allOnes n ↔ p := by
  refine ⟨fun hd => ?_, h.1⟩
  by_contra hp
  exact allOnes_ne_zero hn (hd.symm.trans (h.2 hp))

theorem IsMask.eq_zero_iff {p : Prop} {d : BitVec n} (h : IsMask p d) (hn : 0 < n) : d = 0 ↔ ¬ p :=
  ⟨fun hd hp => allOnes_ne_zero hn ((h.1 hp).symm.trans hd), h.2⟩

end

/-! ### The record in CR6 (rule R34) -/

/-- The four bits of what a compare records. -/
theorem cr6OfCompare_bits (d : Vec) :
    ((cr6OfCompare d).getMsbD 0 = true ↔ d = BitVec.allOnes 128) ∧ (cr6OfCompare d).getMsbD 1 = false ∧
      ((cr6OfCompare d).getMsbD 2 = true ↔ d = 0) ∧ (cr6OfCompare d).getMsbD 3 = false := by
  rw [← beq_iff_eq (a := d) (b := BitVec.allOnes 128), ← beq_iff_eq (a := d) (b := 0), cr6OfCompare]
  cases d == BitVec.allOnes 128 <;> cases d == 0 <;> decide

section
variable {n k : Nat}

/-- A vector built element by element is the vector that has those elements. -/
theorem build_eq_iff (hk : n * k = 128) (f : Nat → BitVec n) (v : Vec) :
    build n k f = v ↔ ∀ j < k, f j = elem n v j := by
  have helem : ∀ j < k, elem n (build n k f) j = f j := fun j hj => elem_build n (width_pos hk) k f j hk hj
  constructor
  · rintro rfl j hj
    exact (helem j hj).symm
  · exact fun h => vec_ext n (width_pos hk) k hk _ _ fun j hj => (helem j hj).trans (h j hj)

theorem elem_zero (j : Nat) : elem n 0 j = 0 := by
  apply BitVec.eq_of_getLsbD_eq
  simp [elem]

theorem elem_allOnes (hk : n * k = 128) {j : Nat} (hj : j < k) : elem n (BitVec.allOnes 128) j = BitVec.allOnes n := by
  have hle : n * (j + 1) ≤ n * k := Nat.mul_le_mul_left n hj
  have hpos : 0 < n * (j + 1) := Nat.mul_pos (width_pos hk) j.succ_pos
  have hmul : n * (j + 1) = n * j + n := Nat.mul_succ n j
  apply BitVec.eq_of_getLsbD_eq
  intro b hb
  simp only [elem, BitVec.getLsbD_extractLsb', BitVec.getLsbD_allOnes, hb, decide_true, Bool.true_and,
    decide_eq_true_eq]
  omega

/-- A compare whose elements are masks records whether all the relations hold and whether none does. -/
theorem cr6OfCompare_build (hk : n * k = 128) {f : Nat → BitVec n} {p : Nat → Prop} (hf : ∀ j, IsMask (p j) (f j)) :
    ((cr6OfCompare (build n k f)).getMsbD 0 = true ↔ ∀ j < k, p j) ∧ (cr6OfCompare (build n k f)).getMsbD 1 = false ∧
      ((cr6OfCompare (build n k f)).getMsbD 2 = true ↔ ∀ j < k, ¬ p j) ∧
      (cr6OfCompare (build n k f)).getMsbD 3 = false := by
  obtain ⟨hall, hbit1, hnone, hbit3⟩ := cr6OfCompare_bits (build n k f)
  have hn := width_pos hk
  refine ⟨hall.trans ?_, hbit1, hnone.trans ?_, hbit3⟩
  · rw [build_eq_iff hk]
    exact forall₂_congr fun j hj => by rw [elem_allOnes hk hj, (hf j).eq_allOnes_iff hn]
  · rw [build_eq_iff hk]
    exact forall₂_congr fun j _ => by rw [elem_zero, (hf j).eq_zero_iff hn]

/-- An integer compare whose element operation `g` gives the masks of `rel`. -/
theorem compareRule_elementwise {i : Instr} {s : State} {vd va vb : Reg} {rc : Bool} (hk : n * k = 128)
    {g : BitVec n → BitVec n → BitVec n} {rel : BitVec n → BitVec n → Prop} (hg : ∀ a b, IsMask (rel a b) (g a b))
    (h : exec i s = compareInt (fun a b => build n k fun j => g (elem n a j) (elem n b j)) vd va vb rc s) :
    CompareRule i n k s vd va vb rc rel := by
  refine vectorRule_of_requireSpv h fun _ => ?_
  obtain ⟨t, ht, hpc, ⟨hv, hcr6⟩, hframe⟩ := completeCompare_spec s vd rc
    (build n k fun j => g (elem n (s.vr va) j) (elem n (s.vr vb) j)) cr6OfCompare
  refine ⟨t, ht, hpc, ⟨fun j hj => ?_, fun hrc => ?_⟩, hframe⟩
  · rw [hv, elem_build n (width_pos hk) k _ j hk hj]
    exact hg _ _
  · rw [hcr6 hrc]
    exact cr6OfCompare_build hk fun j => hg _ _

end

/-! ### Instructions that act bit by bit -/

/-- An instruction of two sources whose result has at each place the bit `g` of their bits there. -/
theorem vectorRule_bitwise {i : Instr} {s : State} {vd va vb : Reg} {f : Vec → Vec → Vec} {g : Bool → Bool → Bool}
    (hf : ∀ a b, ∀ j < 128, (f a b).getLsbD j = g (a.getLsbD j) (b.getLsbD j))
    (h : exec i s = vec2 f vd va vb s) :
    VectorRule i s [.vr vd] fun t => ∀ j < 128, (t.vr vd).getLsbD j = g ((s.vr va).getLsbD j) ((s.vr vb).getLsbD j) :=
  vectorRule_vec2 h fun t ht j hj => by rw [ht, hf _ _ j hj]

theorem getLsbD_andc (a b : Vec) (j : Nat) (hj : j < 128) :
    (a &&& ~~~b).getLsbD j = (a.getLsbD j && !b.getLsbD j) := by
  rw [BitVec.getLsbD_and, BitVec.getLsbD_not, decide_eq_true hj, Bool.true_and]

theorem getLsbD_nor (a b : Vec) (j : Nat) (hj : j < 128) :
    (~~~(a ||| b)).getLsbD j = !(a.getLsbD j || b.getLsbD j) := by
  rw [BitVec.getLsbD_not, BitVec.getLsbD_or, decide_eq_true hj, Bool.true_and]

/-! ### Rotates and shifts (rule R216) -/

section
variable {n : Nat} (a b : BitVec n)

/-- The bits of a rotated element that wrap around stand below those that only move, so the OR of the two parts is their
sum (rules R217 to R219). -/
theorem rotL_toNat (hn : 0 < n) :
    (rotL a b).toNat = a.toNat * 2 ^ (b.toNat % n) % 2 ^ n + a.toNat / 2 ^ (n - b.toNat % n) := by
  have hr : b.toNat % n < n := Nat.mod_lt _ hn
  rw [rotL, shiftCount, BitVec.toNat_rotateLeft, Nat.mod_mod]
  generalize b.toNat % n = r at hr ⊢
  have hsplit : 2 ^ n = 2 ^ (n - r) * 2 ^ r := by rw [← pow_add, Nat.sub_add_cancel hr.le]
  have hmoved : a.toNat * 2 ^ r % 2 ^ n = (a.toNat % 2 ^ (n - r)) <<< r := by
    rw [hsplit, Nat.mul_mod_mul_right, Nat.shiftLeft_eq]
  have hwrapped : a.toNat / 2 ^ (n - r) < 2 ^ r := Nat.div_lt_of_lt_mul (hsplit ▸ a.isLt)
  rw [Nat.shiftLeft_eq, Nat.shiftRight_eq_div_pow, hmoved, Nat.shiftLeft_add_eq_or_of_lt hwrapped]

theorem shiftL_toNat : (shiftL a b).toNat = a.toNat * 2 ^ (b.toNat % n) % 2 ^ n := by
  rw [shiftL, shiftCount, BitVec.toNat_shiftLeft, Nat.shiftLeft_eq]

theorem shiftR_toNat : (shiftR a b).toNat = a.toNat / 2 ^ (b.toNat % n) := by
  rw [shiftR, shiftCount, BitVec.toNat_ushiftRight, Nat.shiftRight_eq_div_pow]

/-- An algebraic shift is a division that rounds down (rules R226 to R228). -/
theorem shiftRA_toInt : (shiftRA a b).toInt = a.toInt / 2 ^ (b.toNat % n) := by
  rw [shiftRA, shiftCount, BitVec.toInt_sshiftRight, Int.shiftRight_eq_div_pow]
  push_cast
  rfl

end

/-! ### The instructions -/

/-- Settles O32: each compare builds the masks of its relation, and its record says whether all or none are TRUE. -/
theorem integerCompareResults : Obligations.IntegerCompareResults := fun _ _ _ _ _ =>
  ⟨compareRule_elementwise rfl isMask_cmpEq rfl,
    compareRule_elementwise rfl isMask_cmpEq rfl,
    compareRule_elementwise rfl isMask_cmpEq rfl,
    compareRule_elementwise rfl isMask_cmpGtU rfl,
    compareRule_elementwise rfl isMask_cmpGtU rfl,
    compareRule_elementwise rfl isMask_cmpGtU rfl,
    compareRule_elementwise rfl isMask_cmpGtS rfl,
    compareRule_elementwise rfl isMask_cmpGtS rfl,
    compareRule_elementwise rfl isMask_cmpGtS rfl⟩

/-- Settles O33: a bit of the result is the operation on the two bits at its place. -/
theorem logicalResults : Obligations.LogicalResults := fun _ _ _ _ =>
  ⟨vectorRule_bitwise (g := and) (fun _ _ _ _ => BitVec.getLsbD_and) rfl,
    vectorRule_bitwise (g := fun x y => x && !y) getLsbD_andc rfl,
    vectorRule_bitwise (g := or) (fun _ _ _ _ => BitVec.getLsbD_or) rfl,
    vectorRule_bitwise (g := bne) (fun _ _ _ _ => BitVec.getLsbD_xor) rfl,
    vectorRule_bitwise (g := fun x y => !(x || y)) getLsbD_nor rfl⟩

/-- Settles O34: each element is rotated or shifted by the vB element modulo its width. -/
theorem rotateShiftResults : Obligations.RotateShiftResults := fun _ _ _ _ =>
  ⟨vectorRule_elementwise rfl (rotL_toNat · · (by decide)) rfl,
    vectorRule_elementwise rfl (rotL_toNat · · (by decide)) rfl,
    vectorRule_elementwise rfl (rotL_toNat · · (by decide)) rfl,
    vectorRule_elementwise rfl shiftL_toNat rfl,
    vectorRule_elementwise rfl shiftL_toNat rfl,
    vectorRule_elementwise rfl shiftL_toNat rfl,
    vectorRule_elementwise rfl shiftR_toNat rfl,
    vectorRule_elementwise rfl shiftR_toNat rfl,
    vectorRule_elementwise rfl shiftR_toNat rfl,
    vectorRule_elementwise rfl shiftRA_toInt rfl,
    vectorRule_elementwise rfl shiftRA_toInt rfl,
    vectorRule_elementwise rfl shiftRA_toInt rfl⟩

end Sys2Proof.Machine
end

section
/-! The single-precision format: a word is a sign and the 31 bits below it, which order the magnitudes; what changing the
sign and flushing a denormalized number leave of it. -/

namespace Sys2Proof.Machine

open Sys2Proof

/-! ### A sign and 31 bits -/

/-- The 31 bits below the sign, as a number: biased exponent, then fraction. -/
def absBits (x : Word) : Nat := x.toNat % 2 ^ 31

theorem absBits_lt (x : Word) : absBits x < 2 ^ 31 := Nat.mod_lt _ (by decide)

theorem signOf_eq (x : Word) : signOf x = decide (2 ^ 31 ≤ x.toNat) := by
  have hx : x.toNat < 2 ^ 32 := x.isLt
  rw [signOf, BitVec.getLsbD, Nat.testBit_eq_decide_div_mod_eq]
  exact decide_eq_decide.2 (by omega)

theorem expOf_eq (x : Word) : expOf x = absBits x / 2 ^ 23 := by
  simp only [expOf, absBits, BitVec.extractLsb'_toNat, Nat.shiftRight_eq_div_pow]
  omega

theorem fracOf_eq (x : Word) : fracOf x = absBits x % 2 ^ 23 := by
  simp only [fracOf, absBits, BitVec.extractLsb'_toNat, Nat.shiftRight_eq_div_pow]
  omega

theorem toNat_withSign (neg : Bool) (n : Nat) : (withSign neg n).toNat = neg.toNat * 2 ^ 31 + n % 2 ^ 31 := by
  rw [withSign, BitVec.toNat_append, BitVec.toNat_ofBool, BitVec.toNat_ofNat,
    ← Nat.shiftLeft_add_eq_or_of_lt (Nat.mod_lt _ (by decide)), Nat.shiftLeft_eq]

@[simp] theorem signOf_withSign (neg : Bool) (n : Nat) : signOf (withSign neg n) = neg := by
  rw [signOf_eq, toNat_withSign]
  have hn : n % 2 ^ 31 < 2 ^ 31 := Nat.mod_lt _ (by decide)
  cases neg
  · exact decide_eq_false (by simp only [Bool.toNat_false]; omega)
  · exact decide_eq_true (by simp only [Bool.toNat_true]; omega)

theorem absBits_withSign (neg : Bool) {n : Nat} (h : n < 2 ^ 31) : absBits (withSign neg n) = n := by
  rw [absBits, toNat_withSign, Nat.mul_add_mod', Nat.mod_mod, Nat.mod_eq_of_lt h]

/-- Sign and magnitude bits determine a word. -/
theorem word_ext {x y : Word} (hs : signOf x = signOf y) (hb : absBits x = absBits y) : x = y := by
  apply BitVec.eq_of_toNat_eq
  have hx : x.toNat < 2 ^ 32 := x.isLt
  have hy : y.toNat < 2 ^ 32 := y.isLt
  rw [signOf_eq, signOf_eq, decide_eq_decide] at hs
  simp only [absBits] at hb
  omega

theorem withSign_signOf (x : Word) : withSign (signOf x) (absBits x) = x :=
  word_ext (signOf_withSign ..) (absBits_withSign _ (absBits_lt x))

/-! ### The classes of words (rules R241, R242) -/

theorem isNaN_iff (x : Word) : isNaN x = true ↔ 0x7F800000 < absBits x := by
  have := absBits_lt x
  simp only [isNaN, expOf_eq, fracOf_eq, Bool.and_eq_true, beq_iff_eq, bne_iff_ne]
  omega

theorem isInf_iff (x : Word) : isInf x = true ↔ absBits x = 0x7F800000 := by
  have := absBits_lt x
  simp only [isInf, expOf_eq, fracOf_eq, Bool.and_eq_true, beq_iff_eq]
  omega

theorem isZero_iff (x : Word) : isZero x = true ↔ absBits x = 0 := by
  simp only [isZero, expOf_eq, fracOf_eq, Bool.and_eq_true, beq_iff_eq]
  omega

theorem isDenormal_iff (x : Word) : isDenormal x = true ↔ 0 < absBits x ∧ absBits x < 2 ^ 23 := by
  have he : x.extractLsb' 23 8 = 0 ↔ expOf x = 0 := by rw [expOf, ← BitVec.toNat_inj]; rfl
  have hf : x.extractLsb' 0 23 = 0 ↔ fracOf x = 0 := by rw [fracOf, ← BitVec.toNat_inj]; rfl
  have := absBits_lt x
  simp only [isDenormal, Bool.and_eq_true, beq_iff_eq, bne_iff_ne, ne_eq, he, hf, expOf_eq, fracOf_eq]
  omega

theorem isZero_eq_withSign {x : Word} (h : isZero x = true) : x = withSign (signOf x) 0 := by
  rw [← (isZero_iff x).1 h, withSign_signOf]

theorem isNaN_eq_false_of_isInf {x : Word} (h : isInf x = true) : isNaN x = false := by
  rw [Bool.eq_false_iff, ne_eq, isNaN_iff, (isInf_iff x).1 h]
  decide

theorem isNaN_eq_false_of_isZero {x : Word} (h : isZero x = true) : isNaN x = false := by
  rw [Bool.eq_false_iff, ne_eq, isNaN_iff, (isZero_iff x).1 h]
  decide

theorem isInf_eq_false_of_isZero {x : Word} (h : isZero x = true) : isInf x = false := by
  rw [Bool.eq_false_iff, ne_eq, isInf_iff, (isZero_iff x).1 h]
  decide

/-! ### Magnitudes (rule R240) -/

/-- The magnitude of a zero or denormalized word. -/
theorem magOf_of_lt {x : Word} (h : absBits x < 2 ^ 23) : magOf x = absBits x := by
  rw [magOf, expOf_eq, fracOf_eq, if_pos (Nat.div_eq_of_lt h), Nat.mod_eq_of_lt h]

/-- The magnitude of a word whose significand is q; q may be one too large, which carries into the exponent. -/
theorem magOf_of_eq {x : Word} {e q : Nat} (h : absBits x = e * 2 ^ 23 + q) (h1 : 2 ^ 23 ≤ q) (h2 : q ≤ 2 ^ 24) :
    magOf x = q * 2 ^ e := by
  rw [magOf, expOf_eq, fracOf_eq, h, if_neg (by omega)]
  rcases Nat.lt_or_eq_of_le h2 with hq | rfl
  · have hexp : (e * 2 ^ 23 + q) / 2 ^ 23 - 1 = e := by omega
    have hfrac : 2 ^ 23 + (e * 2 ^ 23 + q) % 2 ^ 23 = q := by omega
    rw [hexp, hfrac]
  · have hexp : (e * 2 ^ 23 + 2 ^ 24) / 2 ^ 23 - 1 = e + 1 := by omega
    have hfrac : 2 ^ 23 + (e * 2 ^ 23 + 2 ^ 24) % 2 ^ 23 = 2 ^ 23 := by omega
    rw [hexp, hfrac, Nat.pow_succ]
    omega

/-- The magnitude of a normal word. -/
theorem magOf_of_ge {x : Word} (h : 2 ^ 23 ≤ absBits x) :
    magOf x = (absBits x % 2 ^ 23 + 2 ^ 23) * 2 ^ (absBits x / 2 ^ 23 - 1) :=
  magOf_of_eq (by omega) (by omega) (by omega)

/-- Every magnitude is a significand of 24 bits times a power of two; the power is at most 2^253 for a finite word. -/
theorem magOf_eq_mul (x : Word) :
    ∃ q e, magOf x = q * 2 ^ e ∧ q < 2 ^ 24 ∧ (absBits x < 0x7F800000 → e ≤ 253) ∧ (2 ^ 23 ≤ q ∨ e = 0) := by
  rcases Nat.lt_or_ge (absBits x) (2 ^ 23) with h | h
  · exact ⟨absBits x, 0, by rw [magOf_of_lt h, Nat.pow_zero, Nat.mul_one], by omega, fun _ => by decide, .inr rfl⟩
  · exact ⟨_, _, magOf_of_ge h, by omega, by omega, .inl (by omega)⟩

theorem magOf_lt {x : Word} (h : absBits x < 0x7F800000) : magOf x < 2 ^ 277 := by
  obtain ⟨q, e, hm, hq, he, -⟩ := magOf_eq_mul x
  calc magOf x = q * 2 ^ e := hm
    _ < 2 ^ 24 * 2 ^ e := Nat.mul_lt_mul_of_pos_right hq (by positivity)
    _ ≤ 2 ^ 24 * 2 ^ 253 := Nat.mul_le_mul_left _ (Nat.pow_le_pow_right (by decide) (he h))
    _ = 2 ^ 277 := by rw [← pow_add]

theorem magOf_of_isInf {x : Word} (h : isInf x = true) : magOf x = 2 ^ 277 := by
  rw [magOf_of_eq (e := 254) (q := 2 ^ 23) ((isInf_iff x).1 h) le_rfl (by decide), ← pow_add]

theorem lt_magOf_of_isInf {x : Word} (h : isInf x = true) : 2 ^ 23 < magOf x :=
  calc 2 ^ 23 < 2 ^ 277 := Nat.pow_lt_pow_right (by decide) (by decide)
    _ = magOf x := (magOf_of_isInf h).symm

theorem magOf_eq_zero_iff (x : Word) : magOf x = 0 ↔ isZero x = true := by
  rw [isZero_iff]
  rcases Nat.lt_or_ge (absBits x) (2 ^ 23) with h | h
  · rw [magOf_of_lt h]
  · have hpos : 0 < magOf x := magOf_of_ge h ▸ Nat.mul_pos (by omega) (by positivity)
    omega

theorem magOf_pos {x : Word} (h : isZero x = false) : 0 < magOf x :=
  Nat.pos_of_ne_zero fun h0 => Bool.eq_false_iff.1 h ((magOf_eq_zero_iff x).1 h0)

/-- A word that is neither a NaN nor an infinity. -/
theorem absBits_lt_of_finite {x : Word} (hn : isNaN x = false) (hi : isInf x = false) : absBits x < 0x7F800000 := by
  have h1 := mt (isNaN_iff x).2 (Bool.eq_false_iff.1 hn)
  have h2 := mt (isInf_iff x).2 (Bool.eq_false_iff.1 hi)
  omega

theorem magOf_lt_of_finite {x : Word} (hn : isNaN x = false) (hi : isInf x = false) : magOf x < 2 ^ 277 :=
  magOf_lt (absBits_lt_of_finite hn hi)

/-- The magnitude of a word below the normal ones, and of 2^-126. -/
theorem magOf_lt_iff (x : Word) : magOf x < 2 ^ 23 ↔ absBits x < 2 ^ 23 := by
  refine ⟨fun h => ?_, fun h => by rwa [magOf_of_lt h]⟩
  by_contra hc
  have hle : 2 ^ 23 * 1 ≤ magOf x := magOf_of_ge (not_lt.1 hc) ▸ Nat.mul_le_mul (by omega) Nat.one_le_two_pow
  omega

theorem valueOf_of_signOf {x : Word} (h : signOf x = false) : valueOf x = magOf x := by simp [valueOf, h]

/-! ### The other sign -/

theorem negate_withSign (neg : Bool) (n : Nat) : negate (withSign neg n) = withSign (!neg) n := by
  have hbit : (0x80000000 : Word) = BitVec.ofBool true ++ 0#31 := by decide
  rw [negate, withSign, withSign, hbit, BitVec.xor_append, BitVec.xor_zero]
  cases neg <;> rfl

theorem negate_eq (x : Word) : negate x = withSign (!signOf x) (absBits x) := by
  rw [← negate_withSign, withSign_signOf]

@[simp] theorem signOf_negate (x : Word) : signOf (negate x) = !signOf x := by rw [negate_eq, signOf_withSign]

@[simp] theorem absBits_negate (x : Word) : absBits (negate x) = absBits x := by
  rw [negate_eq, absBits_withSign _ (absBits_lt x)]

theorem negate_negate (x : Word) : negate (negate x) = x := by
  rw [negate_eq, signOf_negate, absBits_negate, Bool.not_not, withSign_signOf]

@[simp] theorem isNaN_negate (x : Word) : isNaN (negate x) = isNaN x := by
  rw [Bool.eq_iff_iff, isNaN_iff, isNaN_iff, absBits_negate]

@[simp] theorem isInf_negate (x : Word) : isInf (negate x) = isInf x := by
  rw [Bool.eq_iff_iff, isInf_iff, isInf_iff, absBits_negate]

@[simp] theorem valueOf_negate (x : Word) : valueOf (negate x) = -valueOf x := by
  have hmag : magOf (negate x) = magOf x := by simp only [magOf, expOf_eq, fracOf_eq, absBits_negate]
  rw [valueOf, valueOf, signOf_negate, hmag]
  cases signOf x <;> simp

/-! ### Flushing (rule R245) -/

/-- `flushIn` leaves an element as it is, or makes of a denormalized one the zero of its sign. -/
theorem flushIn_cases (nj : Bool) (x : Word) :
    flushIn nj x = x ∨ flushIn nj x = withSign (signOf x) 0 ∧ isDenormal x = true := by
  rw [flushIn]
  split
  · next h =>
    refine .inr ⟨?_, (Bool.and_eq_true _ _ ▸ h).2⟩
    have hbit : (0x80000000 : Word) = 1#1 ++ 0#31 := by decide
    rw [← withSign_signOf x, signOf_withSign, withSign, withSign, hbit, BitVec.and_append, BitVec.and_zero]
    cases signOf x <;> rfl
  · exact .inl rfl

/-- An element that flushing does not make a zero is as it was. -/
theorem flushIn_of_not_zero {nj : Bool} {x : Word} (h : isZero (flushIn nj x) = false) : flushIn nj x = x := by
  rcases flushIn_cases nj x with hx | ⟨hx, -⟩
  · exact hx
  · rw [hx, ← Bool.not_eq_true, isZero_iff, absBits_withSign _ (by decide)] at h
    exact absurd rfl h

theorem flushIn_of_isNaN {nj : Bool} {x : Word} (h : isNaN (flushIn nj x) = true) : flushIn nj x = x :=
  flushIn_of_not_zero (Bool.eq_false_iff.2 fun hz => by rw [isNaN_eq_false_of_isZero hz] at h; cases h)

end Sys2Proof.Machine
end

section
/-! The floating-point instructions: the rule of an instruction that builds its result word by word once no assist is due,
and what compares and conversions give for each word. -/

namespace Sys2Proof.Machine

open Sys2Proof

/-! ### Instructions that build their result word by word -/

section
variable {i : Instr} {src : List Word} {s : State} {vd : Reg}

/-- A floating-point instruction whose result has the words `f j`. -/
theorem floatRule_build {f : Nat → Word}
    (h : exec i s = requireSpv s (orAssist i src s (complete s vd (ofWords f)))) :
    FloatRule i src s [.vr vd] fun t => ∀ j < 4, word (t.vr vd) j = f j := by
  obtain ⟨t, ht, hpc, hv, hframe⟩ := complete_spec s vd (ofWords f)
  exact floatRule_of_orAssist h ⟨t, ht, hpc, fun j hj => by rw [hv, word_ofWords f j hj], hframe⟩

/-- An estimate instruction: the candidate of each word is a draw of its own (rules R272 to R275). -/
theorem floatRule_estimate {f : Word → Word → Word} {x : Nat → Word}
    (h : exec i s = requireSpv s (orAssist i src s (complete (s.drawn 4) vd
      (ofWords fun k => f (Config.freeEstimate (s.freeCtr + k)) (x k))))) :
    FloatRule i src s [.vr vd, .draws] fun t => ∃ draw : Nat → Word, ∀ j < 4, word (t.vr vd) j = f (draw j) (x j) := by
  obtain ⟨t, ht, hpc, ⟨hv, -⟩, hframe⟩ := complete_drawn_spec s 4 vd
    (ofWords fun k => f (Config.freeEstimate (s.freeCtr + k)) (x k))
  exact floatRule_of_orAssist h ⟨t, ht, hpc,
    ⟨fun k => Config.freeEstimate (s.freeCtr + k), fun j hj => by rw [hv, word_ofWords _ j hj]⟩, hframe⟩

/-- A saturating floating-point instruction: SAT is set where one of the words `f j` was clamped (rule R25). -/
theorem floatRule_buildSat {f : Nat → Word × Bool} {E : State → Prop}
    (h : exec i s = requireSpv s (orAssist i src s (completeSat s vd (buildSat 32 4 f))))
    (hE : ∀ t : State, (∀ j < 4, word (t.vr vd) j = (f j).1) → (SatAfter s t 4 fun j => (f j).2 = true) → E t) :
    FloatRule i src s [.vr vd, .sat] E := by
  obtain ⟨t, ht, hpc, ⟨hv, hsat⟩, hframe⟩ := completeSat_spec s vd (buildSat 32 4 f)
  refine floatRule_of_orAssist h ⟨t, ht, hpc, hE t (fun j hj => ?_) ?_, hframe⟩
  · rw [hv, buildSat, word_ofWords _ j hj]
  · simp only [SatAfter, hsat, buildSat, Bool.or_eq_true, anySat_iff]

/-- A floating-point compare: the words `f j`, and with Rc = 1 their record in CR6 (rule R34). -/
theorem floatRule_buildCompare {f : Nat → Word} {rc : Bool} {record : Vec → BitVec 4} {E : State → Prop}
    (h : exec i s = requireSpv s (orAssist i src s (completeCompare s vd rc (ofWords f) record)))
    (hE : ∀ t : State, (∀ j < 4, word (t.vr vd) j = f j) → (rc = true → t.cr6 = record (ofWords f)) → E t) :
    FloatRule i src s (compareParts vd rc) E := by
  obtain ⟨t, ht, hpc, ⟨hv, hcr6⟩, hframe⟩ := completeCompare_spec s vd rc (ofWords f) record
  exact floatRule_of_orAssist h ⟨t, ht, hpc, hE t (fun j hj => by rw [hv, word_ofWords f j hj]) hcr6, hframe⟩

end

/-! ### Compares (rules R249, R256 to R259) -/

theorem fpGe_iff (a b : Word) : fpGe a b = true ↔ isNaN a = false ∧ isNaN b = false ∧ valueOf b ≤ valueOf a := by
  simp [fpGe, and_assoc]

theorem fpGt_iff (a b : Word) : fpGt a b = true ↔ isNaN a = false ∧ isNaN b = false ∧ valueOf b < valueOf a := by
  simp [fpGt, and_assoc]

theorem fpEq_iff (a b : Word) : fpEq a b = true ↔ isNaN a = false ∧ isNaN b = false ∧ valueOf a = valueOf b := by
  simp [fpEq, and_assoc]

/-- A compare word is the mask of its relation on the flushed elements. -/
theorem isMask_fpCmp {rel : Word → Word → Bool} {holds : Word → Word → Prop}
    (hrel : ∀ a b, rel a b = true ↔ holds a b) (nj : Bool) (x y : Word) :
    IsMask (holds (flushIn nj x) (flushIn nj y)) (fpCmp rel nj x y) :=
  isMask_truth (n := 32) (hrel _ _)

/-- The rule of a compare whose relation is `rel`. -/
theorem floatRule_fpCmp {i : Instr} {src : List Word} {s : State} {vd va vb : Reg} {rc : Bool}
    {rel : Word → Word → Bool} {holds : Word → Word → Prop} (hrel : ∀ a b, rel a b = true ↔ holds a b)
    (h : exec i s = requireSpv s (orAssist i src s (completeCompare s vd rc
      (ofWords fun j => fpCmp rel s.nj (word (s.vr va) j) (word (s.vr vb) j)) cr6OfCompare))) :
    FloatRule i src s (compareParts vd rc) fun t =>
      (∀ j < 4, IsMask (holds (flushIn s.nj (word (s.vr va) j)) (flushIn s.nj (word (s.vr vb) j))) (word (t.vr vd) j)) ∧
      (rc = true →
        (t.cr6.getMsbD 0 = true ↔
          ∀ j < 4, holds (flushIn s.nj (word (s.vr va) j)) (flushIn s.nj (word (s.vr vb) j))) ∧
        t.cr6.getMsbD 1 = false ∧
        (t.cr6.getMsbD 2 = true ↔
          ∀ j < 4, ¬ holds (flushIn s.nj (word (s.vr va) j)) (flushIn s.nj (word (s.vr vb) j))) ∧
        t.cr6.getMsbD 3 = false) := by
  refine floatRule_buildCompare h fun t hv hcr6 => ⟨fun j hj => ?_, fun hrc => ?_⟩
  · rw [hv j hj]
    exact isMask_fpCmp hrel ..
  · rw [hcr6 hrc]
    exact cr6OfCompare_build rfl fun j => isMask_fpCmp hrel ..

/-- Two bits, the first two of a word that is zero elsewhere. -/
theorem twoBits_spec (b c : Bool) :
    ((BitVec.ofBool b ++ BitVec.ofBool c ++ 0#30 : Word).getMsbD 0 = b) ∧
      ((BitVec.ofBool b ++ BitVec.ofBool c ++ 0#30 : Word).getMsbD 1 = c) ∧
      (BitVec.ofBool b ++ BitVec.ofBool c ++ 0#30 : Word).extractLsb' 0 30 = 0#30 ∧
      ((BitVec.ofBool b ++ BitVec.ofBool c ++ 0#30 : Word) = 0 ↔ b = false ∧ c = false) := by
  cases b <;> cases c <;> decide

/-- The bits of a bounds word (rule R259). -/
theorem fpBounds_spec (nj : Bool) (x y : Word) :
    let a := flushIn nj x
    let b := flushIn nj y
    let le := isNaN a = false ∧ isNaN b = false ∧ valueOf a ≤ valueOf b
    let ge := isNaN a = false ∧ isNaN b = false ∧ -valueOf b ≤ valueOf a
    ((fpBounds nj x y).getMsbD 0 = true ↔ ¬ le) ∧ ((fpBounds nj x y).getMsbD 1 = true ↔ ¬ ge) ∧
      (fpBounds nj x y).extractLsb' 0 30 = 0#30 ∧ (fpBounds nj x y = 0 ↔ le ∧ ge) := by
  intro a b le ge
  have hle : fpGe b a = true ↔ le := (fpGe_iff b a).trans and_left_comm
  have hge : fpGe a (negate b) = true ↔ ge := by rw [fpGe_iff, isNaN_negate, valueOf_negate]
  obtain ⟨hbit0, hbit1, hrest, hzero⟩ := twoBits_spec (!fpGe b a) (!fpGe a (negate b))
  refine ⟨?_, ?_, hrest, ?_⟩
  · rw [← hle, Bool.not_eq_true, ← Bool.not_eq_true']
    exact Bool.eq_iff_iff.1 hbit0
  · rw [← hge, Bool.not_eq_true, ← Bool.not_eq_true']
    exact Bool.eq_iff_iff.1 hbit1
  · rw [← hle, ← hge]
    exact hzero.trans (by simp only [Bool.not_eq_eq_eq_not, Bool.not_false])

/-- What `vcmpbfp.` records. -/
theorem cr6OfBounds_bits (d : Vec) :
    (cr6OfBounds d).getMsbD 0 = false ∧ (cr6OfBounds d).getMsbD 1 = false ∧
      ((cr6OfBounds d).getMsbD 2 = true ↔ d = 0) ∧ (cr6OfBounds d).getMsbD 3 = false := by
  rw [← beq_iff_eq (a := d) (b := 0), cr6OfBounds]
  cases d == 0 <;> decide

/-! ### Conversions to integers (rules R247, R262, R263) -/

/-- Truncation of the magnitude, with the sign put back, is truncation of the value toward zero. -/
theorem toInteger_eq (x : Word) (u : Nat) : toInteger x u = (valueOf x * 2 ^ u).tdiv (2 ^ 149) := by
  have hpos : ((magOf x * 2 ^ u / 2 ^ 149 : Nat) : Int) = ((magOf x : Int) * 2 ^ u).tdiv (2 ^ 149) := by
    rw [Int.tdiv_eq_ediv_of_nonneg (by positivity)]
    push_cast
    rfl
  rw [toInteger, valueOf]
  cases signOf x
  · exact hpos
  · simp only [if_true, neg_mul, Int.neg_tdiv, hpos]

/-- An infinity truncates to an integer of more than 32 bits. -/
theorem toInteger_of_isInf {x : Word} (h : isInf x = true) (u : Nat) :
    if signOf x then toInteger x u ≤ -2 ^ 128 else 2 ^ 128 ≤ toInteger x u := by
  have hmag : 2 ^ 128 ≤ magOf x * 2 ^ u / 2 ^ 149 := by
    rw [Nat.le_div_iff_mul_le (by positivity)]
    calc 2 ^ 128 * 2 ^ 149 = magOf x * 1 := by rw [magOf_of_isInf h, ← pow_add, Nat.mul_one]
      _ ≤ magOf x * 2 ^ u := Nat.mul_le_mul_left _ Nat.one_le_two_pow
  have hcast : (2 ^ 128 : Int) ≤ (magOf x * 2 ^ u / 2 ^ 149 : Nat) := by exact_mod_cast hmag
  rw [toInteger]
  cases signOf x
  · exact hcast
  · exact neg_le_neg hcast

/-- The clamp of an infinity is that of any value out of range on its side. -/
theorem toU32_eq (nj : Bool) (u : Nat) (y : Word) :
    toU32 nj u y = if isNaN (flushIn nj y) then (0, false) else satU 32 (toInteger (flushIn nj y) u) := by
  simp only [toU32]
  split
  · rfl
  split
  · next h =>
    have hbig := toInteger_of_isInf h u
    cases hs : signOf (flushIn nj y) <;> simp only [hs, if_true, Bool.false_eq_true, if_false] at hbig ⊢
    · rw [satU, if_neg (by omega), if_pos (by omega)]
      rfl
    · rw [satU, if_pos (by omega)]
  · rfl

/-- The same with the signed range. -/
theorem toS32_eq (nj : Bool) (u : Nat) (y : Word) :
    toS32 nj u y = if isNaN (flushIn nj y) then (0, false) else satS 32 (toInteger (flushIn nj y) u) := by
  simp only [toS32]
  split
  · rfl
  split
  · next h =>
    have hbig := toInteger_of_isInf h u
    cases hs : signOf (flushIn nj y) <;> simp only [hs, if_true, Bool.false_eq_true, if_false] at hbig ⊢
    · rw [satS, if_neg (by omega), if_pos (by omega)]
      rfl
    · rw [satS, if_pos (by omega)]
      rfl
  · rfl

/-- A conversion to integers whose element operation clamps the truncated value with `sat`, in the range that `clamp` and
`out` speak of; `val` reads a result. -/
theorem floatRule_toInt {i : Instr} {src : List Word} {s : State} {vd vb : Reg} {u : Nat}
    {f : Bool → Nat → Word → Word × Bool} {sat : Int → Word × Bool} {val : Word → Int} {clamp : Int → Int}
    {out : Int → Prop}
    (hf : ∀ nj y, f nj u y = if isNaN (flushIn nj y) then (0, false) else sat (toInteger (flushIn nj y) u))
    (hzero : val 0 = 0) (hval : ∀ k, val (sat k).1 = clamp k) (hout : ∀ k, (sat k).2 = true ↔ out k)
    (h : exec i s = requireSpv s (orAssist i src s
      (completeSat s vd (buildSat 32 4 fun k => f s.nj u (word (s.vr vb) k))))) :
    FloatRule i src s [.vr vd, .sat] fun t =>
      let x : Nat → Word := fun j => flushIn s.nj (word (s.vr vb) j)
      let y : Nat → Int := fun j => (valueOf (x j) * 2 ^ u).tdiv (2 ^ 149)
      (∀ j < 4, val (word (t.vr vd) j) = if isNaN (x j) then 0 else clamp (y j)) ∧
        SatAfter s t 4 fun j => isNaN (x j) = false ∧ out (y j) := by
  refine floatRule_buildSat h fun t hv hsat => ⟨fun j hj => ?_, ?_⟩
  · rw [hv j hj, hf]
    split
    · exact hzero
    · rw [hval, toInteger_eq]
  · have hflag : ∀ j, (f s.nj u (word (s.vr vb) j)).2 = true ↔
        isNaN (flushIn s.nj (word (s.vr vb) j)) = false ∧
          out ((valueOf (flushIn s.nj (word (s.vr vb) j)) * 2 ^ u).tdiv (2 ^ 149)) := fun j => by
      rw [hf, ← toInteger_eq]
      cases isNaN (flushIn s.nj (word (s.vr vb) j)) <;> simp [hout]
    simpa only [SatAfter, hflag] using hsat

/-! ### The instructions -/

/-- Settles O50: each instruction is a template that builds its words from the element operation, after the assist test. -/
theorem floatArithmeticElements : Obligations.FloatArithmeticElements := fun _ _ _ _ _ =>
  ⟨floatRule_build rfl, floatRule_build rfl, floatRule_build rfl, floatRule_build rfl, floatRule_build rfl,
    floatRule_build rfl⟩

/-- Settles O51: three compares build the masks of their relations, and the fourth the two bits of its bounds. -/
theorem floatCompareResults : Obligations.FloatCompareResults := by
  intro s vd va vb rc
  refine ⟨floatRule_fpCmp fpEq_iff rfl, floatRule_fpCmp fpGe_iff rfl, floatRule_fpCmp fpGt_iff rfl,
    floatRule_buildCompare rfl fun t hv hcr6 => ⟨fun j hj => ?_, fun hrc => ?_⟩⟩
  · obtain ⟨hbit0, hbit1, hrest, -⟩ := fpBounds_spec s.nj (word (s.vr va) j) (word (s.vr vb) j)
    rw [hv j hj]
    exact ⟨hbit0, hbit1, hrest⟩
  · obtain ⟨hbit0, hbit1, hall, hbit3⟩ := cr6OfBounds_bits (mapWords (fpBounds s.nj) (s.vr va) (s.vr vb))
    rw [hcr6 hrc]
    refine ⟨hbit0, hbit1, hall.trans ?_, hbit3⟩
    rw [mapWords, build_eq_iff rfl]
    exact forall₂_congr fun j _ => by rw [elem_zero]; exact (fpBounds_spec ..).2.2.2

/-- Settles O52: the conversions from integers and the roundings build their words; those to integers clamp them. -/
theorem floatConversionResults : Obligations.FloatConversionResults := fun _ _ _ _ =>
  ⟨vectorRule_build (val := id) rfl rfl fun _ => rfl,
    vectorRule_build (val := id) rfl rfl fun _ => rfl,
    floatRule_toInt (val := fun w => w.toNat) (toU32_eq · _ ·) rfl (satU_toNat 32) (satU_out 32) rfl,
    floatRule_toInt (val := BitVec.toInt) (toS32_eq · _ ·) rfl (satS_toInt (by decide)) (satS_out 32) rfl,
    floatRule_build rfl, floatRule_build rfl, floatRule_build rfl, floatRule_build rfl⟩

/-- Settles O53: the free values of the execution are the candidates. -/
theorem estimateElements : Obligations.EstimateElements := fun _ _ _ =>
  ⟨floatRule_estimate rfl, floatRule_estimate rfl, floatRule_estimate rfl, floatRule_estimate rfl⟩

end Sys2Proof.Machine
end

section
/-! Rounding to the nearest (rule R243): the result as one formula over the exponent of the last place, its distance from the
rounded value, and what rounds exactly. -/

namespace Sys2Proof.Machine

open Sys2Proof

/-! ### The nearest integer -/

/-- A quotient that `nearest` moves by half a unit goes to the even one of its two neighbours. -/
theorem nearest_even {num den : Nat} (hd : 0 < den)
    (h : 2 * (nearest num den * den) = 2 * num + den ∨ 2 * num = 2 * (nearest num den * den) + den) :
    nearest num den % 2 = 0 := by
  have hdiv := Nat.div_add_mod' num den
  have hmod := Nat.mod_lt num hd
  simp only [nearest] at h ⊢
  split <;> rename_i hup
  · rw [if_pos hup, Nat.add_mul (num / den) 1 den] at h
    omega
  · rw [if_neg hup] at h
    omega

theorem nearest_le {num den b : Nat} (hd : 0 < den) (h : num ≤ b * den) : nearest num den ≤ b := by
  by_contra hlt
  have hmul := Nat.mul_le_mul_right den (Nat.succ_le_of_lt (Nat.not_le.1 hlt))
  rw [Nat.succ_mul] at hmul
  have := (nearest_spec num hd).1
  omega

theorem le_nearest {num den a : Nat} (hd : 0 < den) (h : a * den ≤ num) : a ≤ nearest num den := by
  by_contra hlt
  have hmul := Nat.mul_le_mul_right den (Nat.succ_le_of_lt (Nat.not_le.1 hlt))
  rw [Nat.succ_mul] at hmul
  have := (nearest_spec num hd).2
  omega

theorem nearest_mul {den : Nat} (hd : 0 < den) (k : Nat) : nearest (k * den) den = k :=
  le_antisymm (nearest_le hd le_rfl) (le_nearest hd le_rfl)

/-- An even integer is reached from the halfway point below it on. -/
theorem le_nearest_iff_of_even {num den k : Nat} (hd : 0 < den) (hk : k % 2 = 0) (h0 : 0 < k) :
    k ≤ nearest num den ↔ (2 * k - 1) * den ≤ 2 * num := by
  obtain ⟨hlow, hhigh⟩ := nearest_spec num hd
  have hexpand : (2 * k - 1) * den + den = 2 * (k * den) := by
    rw [← Nat.succ_mul, show (2 * k - 1).succ = 2 * k by omega, Nat.mul_assoc]
  constructor
  · intro hle
    have := Nat.mul_le_mul_right den hle
    omega
  · intro hhalf
    by_contra hlt
    have hmul := Nat.mul_le_mul_right den (Nat.succ_le_of_lt (Nat.not_le.1 hlt))
    rw [Nat.succ_mul] at hmul
    have heven := nearest_even hd (num := num) (.inr (by omega))
    have hprev : nearest num den + 1 = k := by
      refine Nat.eq_of_mul_eq_mul_right hd ?_
      rw [Nat.succ_mul]
      omega
    omega

/-! ### One formula for `roundMag` -/

/-- The exponent of the last place of the rounding of `m / 2^scale`, counted from the last bit of `m` (rule R243). -/
def ulpExp (m scale : Nat) : Nat := max (m.log2 - 23) (scale - 149)

/-- The rounded significand. -/
def roundSig (m scale : Nat) : Nat := nearest m (2 ^ ulpExp m scale)

/-- The 31 bits below the sign, where the result does not overflow. -/
def roundBits (m scale : Nat) : Nat := (ulpExp m scale - (scale - 149)) * 2 ^ 23 + roundSig m scale

section
variable {m scale : Nat}

/-- The rounded significand has 24 bits or is 2^24; it is short only in the last place of the denormalized numbers. -/
theorem roundSig_bounds (hm : m ≠ 0) :
    roundSig m scale ≤ 2 ^ 24 ∧ (2 ^ 23 ≤ roundSig m scale ∨ ulpExp m scale = scale - 149) := by
  constructor
  · refine nearest_le (by positivity) (Nat.lt_log2_self.le.trans ?_)
    rw [← pow_add]
    exact Nat.pow_le_pow_right (by decide) (by unfold ulpExp; omega)
  · rcases Nat.lt_or_ge m.log2 (23 + (scale - 149)) with h | h
    · exact .inr (by unfold ulpExp; omega)
    · refine .inl (le_nearest (by positivity) (le_trans ?_ (Nat.log2_self_le hm)))
      rw [← pow_add]
      exact Nat.pow_le_pow_right (by decide) (by unfold ulpExp; omega)

/-- `roundMag` without NJ. -/
theorem roundMag_false_eq (hm : m ≠ 0) (hs : 149 ≤ scale) (neg : Bool) :
    roundMag false neg m scale = withSign neg (min 0x7F800000 (roundBits m scale)) := by
  have hsig := (roundSig_bounds (scale := scale) hm).1
  rw [roundMag, roundBits]
  unfold roundSig at hsig ⊢
  rcases Nat.lt_or_ge (m.log2 + 126) scale with h | h
  · have hulp : ulpExp m scale = scale - 149 := by unfold ulpExp; omega
    rw [hulp] at hsig ⊢
    simp only [h, if_true, Bool.false_eq_true, if_false]
    congr 1
    omega
  · have hulp : ulpExp m scale = m.log2 - 23 := by unfold ulpExp; omega
    have hexp : m.log2 - 23 - (scale - 149) = m.log2 + 126 - scale := by omega
    rw [hulp, hexp]
    simp only [if_neg (Nat.not_lt.2 h), if_pos (show 23 ≤ m.log2 by omega), min_def]

/-- With NJ = 1 a value below 2^-126 becomes a zero; any other rounds as with NJ = 0 (rules R243, R245). -/
theorem roundMag_true_eq (hm : m ≠ 0) (hs : 149 ≤ scale) (neg : Bool) :
    roundMag true neg m scale =
      if m < 2 ^ 23 * 2 ^ (scale - 149) then withSign neg 0 else roundMag false neg m scale := by
  have htiny : m.log2 + 126 < scale ↔ m < 2 ^ 23 * 2 ^ (scale - 149) := by
    rw [← pow_add, ← Nat.log2_lt hm]
    omega
  simp only [← htiny, roundMag]
  split <;> rfl

/-- The halfway point above the largest finite number, in units of 2^-149. -/
theorem halfway_eq : 2 ^ 277 - 2 ^ 252 = (2 * 2 ^ 24 - 1) * 2 ^ 252 := by
  rw [Nat.sub_mul, Nat.one_mul, mul_assoc, ← pow_add, ← pow_succ']

/-- The result is an infinity from the halfway point above the largest finite number on. -/
theorem overflow_iff (hm : m ≠ 0) :
    0x7F800000 ≤ roundBits m scale ↔ (2 ^ 277 - 2 ^ 252) * 2 ^ (scale - 149) ≤ m := by
  have hlow : 2 ^ m.log2 ≤ m := Nat.log2_self_le hm
  have hhalf : (2 ^ 277 - 2 ^ 252) * 2 ^ (scale - 149) * 2 = (2 * 2 ^ 24 - 1) * 2 ^ (253 + (scale - 149)) := by
    rw [halfway_eq, mul_right_comm, mul_assoc _ (2 ^ 252) 2, ← pow_succ, mul_assoc, ← pow_add]
  have htop : (2 ^ 277 - 2 ^ 252) * 2 ^ (scale - 149) ≤ 2 ^ (277 + (scale - 149)) := by
    rw [pow_add]
    exact Nat.mul_le_mul_right _ (Nat.sub_le _ _)
  have hbot : 2 ^ (276 + (scale - 149)) ≤ (2 ^ 277 - 2 ^ 252) * 2 ^ (scale - 149) := by
    rw [halfway_eq, pow_add, pow_add 2 24 252]
    exact Nat.mul_le_mul_right _ (Nat.mul_le_mul_right _ (by decide))
  have heven := le_nearest_iff_of_even (num := m) (den := 2 ^ ulpExp m scale) (k := 2 ^ 24) (by positivity) (by decide)
    (by decide)
  obtain ⟨hsig, hnormal⟩ := roundSig_bounds (scale := scale) hm
  rw [roundBits]
  unfold roundSig at hsig hnormal ⊢
  constructor
  · intro h
    rcases Nat.lt_or_ge (ulpExp m scale) (254 + (scale - 149)) with hE | hE
    · have hulp : ulpExp m scale = 253 + (scale - 149) := by omega
      rw [hulp] at heven h hsig
      have := heven.1 (by omega)
      omega
    · have hlog : 277 + (scale - 149) ≤ m.log2 := by unfold ulpExp at hE; omega
      exact htop.trans ((Nat.pow_le_pow_right (by decide) hlog).trans hlow)
  · intro h
    have hlog : 276 + (scale - 149) ≤ m.log2 := (Nat.le_log2 hm).2 (hbot.trans h)
    have hulp : 253 + (scale - 149) ≤ ulpExp m scale := by unfold ulpExp; omega
    rcases Nat.lt_or_eq_of_le hulp with hE | hE
    · omega
    · have := heven.2 (by rw [← hE]; omega)
      omega

/-- The magnitude of the bits, where they do not overflow. -/
theorem magOf_roundBits (hm : m ≠ 0) (neg : Bool) (hfin : roundBits m scale < 0x7F800000) :
    magOf (withSign neg (roundBits m scale)) * 2 ^ (scale - 149) = roundSig m scale * 2 ^ ulpExp m scale := by
  have hbits : absBits (withSign neg (roundBits m scale)) = roundBits m scale := absBits_withSign _ (by omega)
  have hle : scale - 149 ≤ ulpExp m scale := le_max_right ..
  obtain ⟨hsig, hnormal⟩ := roundSig_bounds (scale := scale) hm
  rcases Nat.lt_or_ge (roundSig m scale) (2 ^ 23) with hq | hq
  · have hulp := hnormal.resolve_left (by omega)
    have hshort : roundBits m scale = roundSig m scale := by rw [roundBits, hulp]; omega
    rw [magOf_of_lt (by omega), hbits, hshort, hulp]
  · rw [magOf_of_eq (hbits.trans rfl) hq hsig, mul_assoc, ← pow_add, Nat.sub_add_cancel hle]

/-! ### The rounded value -/

theorem signOf_roundMag (nj neg : Bool) (m scale : Nat) : signOf (roundMag nj neg m scale) = neg := by
  rw [roundMag]
  split <;> exact signOf_withSign ..

theorem isNaN_roundMag (hm : m ≠ 0) (hs : 149 ≤ scale) (nj neg : Bool) : isNaN (roundMag nj neg m scale) = false := by
  have hfalse : isNaN (roundMag false neg m scale) = false := by
    rw [roundMag_false_eq hm hs, Bool.eq_false_iff, ne_eq, isNaN_iff, absBits_withSign _ (by omega)]
    omega
  cases nj
  · exact hfalse
  · rw [roundMag_true_eq hm hs]
    split
    · exact isNaN_eq_false_of_isZero ((isZero_iff _).2 (absBits_withSign _ (by decide)))
    · exact hfalse

/-- The sign of a rounded value is apart from its magnitude. -/
theorem negate_roundMag (nj neg : Bool) (m scale : Nat) :
    negate (roundMag nj neg m scale) = roundMag nj (!neg) m scale := by
  simp only [roundMag]
  split <;> exact negate_withSign ..

theorem isInf_roundMag_iff (hm : m ≠ 0) (hs : 149 ≤ scale) (neg : Bool) :
    isInf (roundMag false neg m scale) = true ↔ (2 ^ 277 - 2 ^ 252) * 2 ^ (scale - 149) ≤ m := by
  rw [← overflow_iff hm, roundMag_false_eq hm hs, isInf_iff, absBits_withSign _ (by omega)]
  omega

/-- A finite result is the rounded significand in units of the last place, and its last bit is that of the significand. -/
theorem roundMag_finite (hm : m ≠ 0) (hs : 149 ≤ scale) {neg : Bool} (hfin : isInf (roundMag false neg m scale) = false) :
    magOf (roundMag false neg m scale) * 2 ^ (scale - 149) = roundSig m scale * 2 ^ ulpExp m scale ∧
      (roundMag false neg m scale).getLsbD 0 = decide (roundSig m scale % 2 = 1) := by
  have hbits : roundBits m scale < 0x7F800000 := by
    rw [← Nat.not_le, overflow_iff hm, ← isInf_roundMag_iff hm hs neg, hfin]
    decide
  rw [roundMag_false_eq hm hs, Nat.min_eq_right hbits.le]
  refine ⟨magOf_roundBits hm neg hbits, ?_⟩
  rw [BitVec.getLsbD, Nat.testBit_eq_decide_div_mod_eq, toNat_withSign, roundBits]
  exact decide_eq_decide.2 (by omega)

/-- The rounding error of a finite result is at most half a unit in the last place, and a tie goes to the even one. -/
theorem roundMag_error (hm : m ≠ 0) (hs : 149 ≤ scale) {neg : Bool} (hfin : isInf (roundMag false neg m scale) = false) :
    let e : Int := magOf (roundMag false neg m scale) * 2 ^ (scale - 149) - m
    2 * |e| ≤ 2 ^ ulpExp m scale ∧ (2 * |e| = 2 ^ ulpExp m scale → (roundMag false neg m scale).getLsbD 0 = false) := by
  intro e
  obtain ⟨hmag, hlast⟩ := roundMag_finite hm hs hfin
  have hulp : 0 < 2 ^ ulpExp m scale := by positivity
  obtain ⟨hlow, hhigh⟩ := nearest_spec m hulp
  have heven := nearest_even (num := m) hulp
  have he : e = (roundSig m scale * 2 ^ ulpExp m scale : Nat) - (m : Int) := by
    rw [← hmag]
    push_cast
    rfl
  have hcast : (2 ^ ulpExp m scale : Int) = (2 ^ ulpExp m scale : Nat) := by push_cast; rfl
  rw [he, hcast, hlast]
  unfold roundSig
  generalize nearest m (2 ^ ulpExp m scale) * 2 ^ ulpExp m scale = v at *
  generalize (2 ^ ulpExp m scale : Nat) = u at *
  have habs := abs_cases ((v : Int) - m)
  refine ⟨by omega, fun htie => decide_eq_false ?_⟩
  have := heven (by omega)
  omega

/-- From 2^-126 on the rounding error of a finite result is at most 2^-24 of the value. -/
theorem roundMag_relative (hs : 149 ≤ scale) (hm : 2 ^ 23 * 2 ^ (scale - 149) ≤ m) {neg : Bool}
    (hfin : isInf (roundMag false neg m scale) = false) :
    2 ^ 24 * |(magOf (roundMag false neg m scale) * 2 ^ (scale - 149) - m : Int)| ≤ m := by
  have hm0 : m ≠ 0 := by
    have : 0 < 2 ^ 23 * 2 ^ (scale - 149) := by positivity
    omega
  have hlog : 23 + (scale - 149) ≤ m.log2 := (Nat.le_log2 hm0).2 (by rwa [pow_add])
  have hulp : 2 ^ 23 * 2 ^ ulpExp m scale ≤ m := by
    rw [← pow_add]
    exact (Nat.pow_le_pow_right (by decide) (by unfold ulpExp; omega)).trans (Nat.log2_self_le hm0)
  have hcast : (2 ^ 23 * 2 ^ ulpExp m scale : Int) ≤ m := by exact_mod_cast hulp
  have := (roundMag_error hm0 hs hfin).1
  linarith

/-- A value of 24 significant bits and an exponent of the format is below the halfway point above the largest number. -/
theorem mul_two_pow_lt_halfway {f e : Nat} (hf : f < 2 ^ 24) (he : e ≤ 253) : f * 2 ^ e < 2 ^ 277 - 2 ^ 252 := by
  calc f * 2 ^ e ≤ (2 ^ 24 - 1) * 2 ^ 253 := Nat.mul_le_mul (by omega) (Nat.pow_le_pow_right (by decide) he)
    _ < (2 * 2 ^ 24 - 1) * 2 ^ 252 := by decide
    _ = 2 ^ 277 - 2 ^ 252 := halfway_eq.symm

/-- A value with 24 significant bits, none of them below the last place of the format, rounds to itself. -/
theorem roundMag_exact (hs : 149 ≤ scale) {f e : Nat} (hf0 : 0 < f) (hf : f < 2 ^ 24) (he : scale - 149 ≤ e)
    (hmax : f * 2 ^ e < (2 ^ 277 - 2 ^ 252) * 2 ^ (scale - 149)) (neg : Bool) :
    isInf (roundMag false neg (f * 2 ^ e) scale) = false ∧
      magOf (roundMag false neg (f * 2 ^ e) scale) * 2 ^ (scale - 149) = f * 2 ^ e := by
  have hm : f * 2 ^ e ≠ 0 := by positivity
  have hfin : isInf (roundMag false neg (f * 2 ^ e) scale) = false := by
    rwa [Bool.eq_false_iff, ne_eq, isInf_roundMag_iff hm hs, Nat.not_le]
  have hulp : ulpExp (f * 2 ^ e) scale ≤ e := by
    have : (f * 2 ^ e).log2 < 24 + e := by
      rw [Nat.log2_lt hm, pow_add]
      exact Nat.mul_lt_mul_of_pos_right hf (by positivity)
    unfold ulpExp
    omega
  have hsplit : f * 2 ^ e = f * 2 ^ (e - ulpExp (f * 2 ^ e) scale) * 2 ^ ulpExp (f * 2 ^ e) scale := by
    rw [mul_assoc, ← pow_add, Nat.sub_add_cancel hulp]
  refine ⟨hfin, (roundMag_finite hm hs hfin).1.trans ?_⟩
  have hsig : roundSig (f * 2 ^ e) scale = f * 2 ^ (e - ulpExp (f * 2 ^ e) scale) := by
    rw [roundSig]
    nth_rw 1 [hsplit]
    exact nearest_mul (by positivity) _
  rw [hsig, ← hsplit]

end

end Sys2Proof.Machine
end

section
/-! The element operations of floating-point arithmetic: NaN operands, infinities and zeros (rules R244, R248), and the exact
finite result rounded once (rules R242, R243). -/

namespace Sys2Proof.Machine

open Sys2Proof

/-! ### NaN operands (rule R248) -/

section
variable {nj : Bool} {x y z : Word} {a b c : Word} (r : Word)

theorem orNaN2_of_left (hx : isNaN (flushIn nj x) = true) : orNaN2 (flushIn nj x) b r = x ||| 0x00400000 := by
  rw [orNaN2, if_pos hx, flushIn_of_isNaN hx, quiet]

theorem orNaN2_of_right (ha : isNaN a = false) (hy : isNaN (flushIn nj y) = true) :
    orNaN2 a (flushIn nj y) r = y ||| 0x00400000 := by
  rw [orNaN2, ha, if_neg (by decide), if_pos hy, flushIn_of_isNaN hy, quiet]

theorem orNaN2_of_none (ha : isNaN a = false) (hb : isNaN b = false) : orNaN2 a b r = r := by
  rw [orNaN2, ha, hb, if_neg (by decide), if_neg (by decide)]

theorem orNaN3_of_left (hx : isNaN (flushIn nj x) = true) : orNaN3 (flushIn nj x) b c r = x ||| 0x00400000 := by
  rw [orNaN3, if_pos hx, flushIn_of_isNaN hx, quiet]

theorem orNaN3_of_not_left (ha : isNaN a = false) : orNaN3 a b c r = orNaN2 b c r := by
  rw [orNaN3, ha, if_neg (by decide)]

theorem orNaN3_of_none (ha : isNaN a = false) (hb : isNaN b = false) (hc : isNaN c = false) : orNaN3 a b c r = r := by
  rw [orNaN3_of_not_left r ha, orNaN2_of_none r hb hc]

end

/-! ### Signed zeros and infinities -/

theorem withSign_zero (p : Bool) : withSign p 0 = if p then 0x80000000 else 0 := by cases p <;> rfl

theorem withSign_zero_and (p q : Bool) : withSign p 0 &&& withSign q 0 = if p ∧ q then 0x80000000 else 0 := by
  cases p <;> cases q <;> decide

theorem withSign_zero_or (p q : Bool) : withSign p 0 ||| withSign q 0 = if p ∨ q then 0x80000000 else 0 := by
  cases p <;> cases q <;> decide

theorem infOf_eq (p : Bool) : infOf p = if p then 0xFF800000 else 0x7F800000 := by cases p <;> rfl

theorem isNaN_infOf (p : Bool) : isNaN (infOf p) = false := by cases p <;> rfl

/-! ### Sums (rules R250, R251) -/

section
variable {nj : Bool} {a b c : Word}

theorem addNum_of_isInf_left (ha : isInf a = true) :
    addNum nj a b = if isInf b ∧ signOf a ≠ signOf b then 0x7FC00000 else a := by
  simp [addNum, ha, qnanDefault]

theorem addNum_of_isInf_right (ha : isInf a = false) (hb : isInf b = true) : addNum nj a b = b := by
  simp [addNum, ha, hb]

theorem addNum_of_zero (ha : isInf a = false) (hb : isInf b = false) (h : valueOf a + valueOf b = 0) :
    addNum nj a b = if signOf a ∧ signOf b then 0x80000000 else 0 := by
  simp [addNum, ha, hb, h, withSign_zero]

theorem addNum_of_finite (ha : isInf a = false) (hb : isInf b = false) (h : valueOf a + valueOf b ≠ 0) :
    addNum nj a b = roundInt nj (valueOf a + valueOf b) 149 := by
  simp [addNum, ha, hb, h]

/-! ### Multiply-add (rules R252, R253) -/

theorem maddNum_of_invalid (h : isInf a = true ∧ isZero c = true ∨ isZero a = true ∧ isInf c = true) :
    maddNum nj a c b = qnanDefault := by
  rcases h with ⟨ha, hc⟩ | ⟨ha, hc⟩ <;> simp [maddNum, ha, hc]

theorem maddNum_of_isInf (h : isInf a = true ∨ isInf c = true) (ha : isZero a = false) (hc : isZero c = false) :
    maddNum nj a c b =
      if isInf b ∧ signOf b ≠ (signOf a ^^ signOf c) then qnanDefault else infOf (signOf a ^^ signOf c) := by
  simp [maddNum, h, ha, hc]

theorem maddNum_of_isInf_addend (ha : isInf a = false) (hc : isInf c = false) (hb : isInf b = true) :
    maddNum nj a c b = b := by
  simp [maddNum, ha, hb, hc]

theorem maddNum_of_zero (ha : isInf a = false) (hc : isInf c = false) (hb : isInf b = false)
    (h : valueOf a * valueOf c + valueOf b * 2 ^ 149 = 0) :
    maddNum nj a c b = withSign ((signOf a ^^ signOf c) && signOf b) 0 := by
  simp only [maddNum, ha, hb, hc, Bool.or_false, Bool.false_eq_true, if_false, if_pos h]

theorem maddNum_of_finite (ha : isInf a = false) (hc : isInf c = false) (hb : isInf b = false)
    (h : valueOf a * valueOf c + valueOf b * 2 ^ 149 ≠ 0) :
    maddNum nj a c b = roundInt nj (valueOf a * valueOf c + valueOf b * 2 ^ 149) 298 := by
  simp only [maddNum, ha, hb, hc, Bool.or_false, Bool.false_eq_true, if_false, if_neg h]

end

/-- The last step of `vnmsubfp`: the sign of a result that is no NaN is inverted (rule R253). -/
def negateNum (t : Word) : Word := if isNaN t then t else negate t

theorem fpNmsub_eq {nj : Bool} {x y z : Word} (ha : isNaN (flushIn nj x) = false) (hb : isNaN (flushIn nj y) = false)
    (hc : isNaN (flushIn nj z) = false) :
    fpNmsub nj x y z = negateNum (maddNum nj (flushIn nj x) (flushIn nj z) (negate (flushIn nj y))) :=
  orNaN3_of_none _ ha hb hc

theorem negateNum_qnanDefault : negateNum qnanDefault = 0x7FC00000 := by decide

theorem negateNum_of_not_nan {t : Word} (h : isNaN t = false) : negateNum t = negate t := by
  rw [negateNum, h, if_neg (by decide)]

/-- Rounding to the nearest is symmetric, so the negated rounding is the rounding of the negated value. -/
theorem negateNum_roundInt {v w : Int} (hv : v ≠ 0) (hw : w = -v) (nj : Bool) {scale : Nat} (hs : 149 ≤ scale) :
    negateNum (roundInt nj v scale) = roundInt nj w scale := by
  have hsign : (!decide (v < 0)) = decide (-v < 0) := by
    rw [← decide_not]
    exact decide_eq_decide.2 (by omega)
  rw [roundInt, roundInt, negateNum_of_not_nan (isNaN_roundMag (by omega) hs ..), negate_roundMag, hw, Int.natAbs_neg,
    hsign]

/-! ### Zeros and negative operands of the estimates (rules R268 to R271) -/

theorem estimates_of_isZero {nj : Bool} {y : Word} (h : isZero (flushIn nj y) = true) (draw : Word) :
    estRecip nj draw y = infOf (signOf (flushIn nj y)) ∧ estRsqrt nj draw y = infOf (signOf (flushIn nj y)) ∧
      estLog2 nj draw y = infOf true ∧ estExp2 nj draw y = 0x3F800000 := by
  simp [estRecip, estRsqrt, estLog2, estExp2, h, isNaN_eq_false_of_isZero h]

theorem estimates_of_negative {nj : Bool} {y : Word} (hn : isNaN (flushIn nj y) = false)
    (hz : isZero (flushIn nj y) = false) (hs : signOf (flushIn nj y) = true) (draw : Word) :
    estRsqrt nj draw y = qnanDefault ∧ estLog2 nj draw y = qnanDefault := by
  simp [estRsqrt, estLog2, hn, hz, hs]

theorem estimates_of_isNaN {nj : Bool} {y : Word} (h : isNaN (flushIn nj y) = true) (draw : Word) :
    ∀ f ∈ [estRecip, estRsqrt, estLog2, estExp2], f nj draw y = y ||| 0x00400000 := by
  have hx := flushIn_of_isNaN h
  rw [hx] at h
  simp [estRecip, estRsqrt, estLog2, estExp2, hx, h, quiet]

theorem estimates_of_infinity (nj : Bool) (draw : Word) :
    estRecip nj draw 0x7F800000 = 0 ∧ estRecip nj draw 0xFF800000 = 0x80000000 ∧ estRsqrt nj draw 0x7F800000 = 0 ∧
    estLog2 nj draw 0x7F800000 = 0x7F800000 ∧ estExp2 nj draw 0x7F800000 = 0x7F800000 ∧
    estExp2 nj draw 0xFF800000 = 0 := by
  cases nj <;> exact ⟨rfl, rfl, rfl, rfl, rfl, rfl⟩

/-! ### The element operations by the class of their operands -/

section
variable {nj : Bool} {x y z : Word}

/-- Sums, differences, maxima and minima of operands that are no NaNs. -/
theorem sum_and_extremum_special (ha : isNaN (flushIn nj x) = false) (hb : isNaN (flushIn nj y) = false) :
    let a := flushIn nj x
    let b := flushIn nj y
    (isInf a = true → fpAdd nj x y = (if isInf b ∧ signOf a ≠ signOf b then 0x7FC00000 else a) ∧
      fpSub nj x y = (if isInf b ∧ signOf a = signOf b then 0x7FC00000 else a)) ∧
    (isInf a = false → isInf b = true → fpAdd nj x y = b ∧ fpSub nj x y = b ^^^ 0x80000000) ∧
    (isInf a = false → isInf b = false →
      (valueOf a + valueOf b = 0 → fpAdd nj x y = if signOf a ∧ signOf b then 0x80000000 else 0) ∧
      (valueOf a - valueOf b = 0 → fpSub nj x y = if signOf a ∧ ¬ signOf b then 0x80000000 else 0)) ∧
    (isZero a = true → isZero b = true →
      fpMax nj x y = (if signOf a ∧ signOf b then 0x80000000 else 0) ∧
      fpMin nj x y = (if signOf a ∨ signOf b then 0x80000000 else 0)) ∧
    (isZero a = false ∨ isZero b = false →
      fpMax nj x y = (if valueOf b ≤ valueOf a then a else b) ∧
      fpMin nj x y = (if valueOf a < valueOf b then a else b)) := by
  intro a b
  have hadd : fpAdd nj x y = addNum nj a b := orNaN2_of_none _ ha hb
  have hsub : fpSub nj x y = addNum nj a (negate b) := orNaN2_of_none _ ha hb
  have hmax : fpMax nj x y = if isZero a && isZero b then a &&& b else if fpGe a b then a else b := orNaN2_of_none _ ha hb
  have hmin : fpMin nj x y = if isZero a && isZero b then a ||| b else if fpGt b a then a else b := orNaN2_of_none _ ha hb
  rw [hadd, hsub, hmax, hmin]
  refine ⟨fun hia => ⟨addNum_of_isInf_left hia, ?_⟩, fun hia hib => ⟨addNum_of_isInf_right hia hib, ?_⟩,
    fun hia hib => ⟨addNum_of_zero hia hib, fun h => ?_⟩, fun hza hzb => ?_, fun hz => ?_⟩
  · rw [addNum_of_isInf_left hia, isInf_negate, signOf_negate]
    simp
  · exact addNum_of_isInf_right hia (by rwa [isInf_negate])
  · rw [addNum_of_zero hia (by rwa [isInf_negate]) (by rwa [valueOf_negate, ← sub_eq_add_neg]), signOf_negate]
    simp
  · rw [hza, hzb, ← withSign_zero_and, ← withSign_zero_or, ← isZero_eq_withSign hza, ← isZero_eq_withSign hzb]
    exact ⟨rfl, rfl⟩
  · have hnot : (isZero a && isZero b) = false := Bool.and_eq_false_iff.2 hz
    have hge : fpGe a b = true ↔ valueOf b ≤ valueOf a := (fpGe_iff a b).trans (by simp [a, b, ha, hb])
    have hgt : fpGt b a = true ↔ valueOf a < valueOf b := (fpGt_iff b a).trans (by simp [a, b, ha, hb])
    simp only [hnot, Bool.false_eq_true, if_false, hge, hgt, and_self]

/-- Multiply-add and negative multiply-subtract of operands that are no NaNs. -/
theorem multiplyAdd_special (ha : isNaN (flushIn nj x) = false) (hb : isNaN (flushIn nj y) = false)
    (hc : isNaN (flushIn nj z) = false) :
    let a := flushIn nj x
    let b := flushIn nj y
    let c := flushIn nj z
    let negative := signOf a ^^ signOf c
    (isInf a = true ∧ isZero c = true ∨ isZero a = true ∧ isInf c = true →
      fpMadd nj x y z = 0x7FC00000 ∧ fpNmsub nj x y z = 0x7FC00000) ∧
    (isInf a = true ∨ isInf c = true → isZero a = false → isZero c = false →
      fpMadd nj x y z = (if isInf b ∧ signOf b ≠ negative then 0x7FC00000
        else if negative then 0xFF800000 else 0x7F800000) ∧
      fpNmsub nj x y z = (if isInf b ∧ signOf b = negative then 0x7FC00000
        else if negative then 0x7F800000 else 0xFF800000)) ∧
    (isInf a = false → isInf c = false →
      (isInf b = true → fpMadd nj x y z = b ∧ fpNmsub nj x y z = b) ∧
      (isInf b = false →
        (valueOf a * valueOf c + valueOf b * 2 ^ 149 = 0 →
          fpMadd nj x y z = if negative ∧ signOf b then 0x80000000 else 0) ∧
        (valueOf a * valueOf c - valueOf b * 2 ^ 149 = 0 →
          fpNmsub nj x y z = if negative ∧ ¬ signOf b then 0 else 0x80000000))) := by
  intro a b c negative
  have hmadd : fpMadd nj x y z = maddNum nj a c b := orNaN3_of_none _ ha hb hc
  rw [hmadd, fpNmsub_eq ha hb hc]
  refine ⟨fun h => ⟨maddNum_of_invalid h, ?_⟩, fun h hza hzc => ⟨?_, ?_⟩, fun hia hic =>
    ⟨fun hib => ⟨maddNum_of_isInf_addend hia hic hib, ?_⟩, fun hib => ⟨fun h => ?_, fun h => ?_⟩⟩⟩
  · rw [maddNum_of_invalid h, negateNum_qnanDefault]
  · rw [maddNum_of_isInf h hza hzc, infOf_eq, qnanDefault]
  · rw [maddNum_of_isInf h hza hzc, isInf_negate, signOf_negate, apply_ite negateNum, negateNum_qnanDefault,
      negateNum_of_not_nan (isNaN_infOf _), infOf, negate_withSign, ← infOf, infOf_eq]
    simp [negative, a, b, c]
  · rw [maddNum_of_isInf_addend hia hic (by rwa [isInf_negate]), negateNum_of_not_nan (by rwa [isNaN_negate]),
      negate_negate]
  · rw [maddNum_of_zero hia hic hib h, withSign_zero]
    simp [negative]
  · have hzero : isNaN (withSign (negative && !signOf b) 0) = false :=
      isNaN_eq_false_of_isZero ((isZero_iff _).2 (absBits_withSign _ (by decide)))
    rw [maddNum_of_zero hia hic (by rwa [isInf_negate]) (by rwa [valueOf_negate, neg_mul, ← sub_eq_add_neg]),
      signOf_negate, negateNum_of_not_nan hzero, negate_withSign, withSign_zero]
    cases negative <;> cases signOf b <;> rfl

/-- Finite operands whose exact result is not zero: one rounding of it. -/
theorem arithmetic_of_finite (ha : isNaN (flushIn nj x) = false) (hb : isNaN (flushIn nj y) = false)
    (hc : isNaN (flushIn nj z) = false) (hia : isInf (flushIn nj x) = false) (hib : isInf (flushIn nj y) = false)
    (hic : isInf (flushIn nj z) = false) :
    let a := flushIn nj x
    let b := flushIn nj y
    let c := flushIn nj z
    (valueOf a + valueOf b ≠ 0 → fpAdd nj x y = roundInt nj (valueOf a + valueOf b) 149) ∧
    (valueOf a - valueOf b ≠ 0 → fpSub nj x y = roundInt nj (valueOf a - valueOf b) 149) ∧
    (valueOf a * valueOf c + valueOf b * 2 ^ 149 ≠ 0 →
      fpMadd nj x y z = roundInt nj (valueOf a * valueOf c + valueOf b * 2 ^ 149) 298) ∧
    (valueOf b * 2 ^ 149 - valueOf a * valueOf c ≠ 0 →
      fpNmsub nj x y z = roundInt nj (valueOf b * 2 ^ 149 - valueOf a * valueOf c) 298) := by
  intro a b c
  refine ⟨fun h => ?_, fun h => ?_, fun h => ?_, fun h => ?_⟩
  · exact (orNaN2_of_none _ ha hb).trans (addNum_of_finite hia hib h)
  · rw [sub_eq_add_neg, ← valueOf_negate] at h ⊢
    exact (orNaN2_of_none _ ha hb).trans (addNum_of_finite hia (by rwa [isInf_negate]) h)
  · exact (orNaN3_of_none _ ha hb hc).trans (maddNum_of_finite hia hic hib h)
  · have hval : valueOf a * valueOf c + valueOf (negate b) * 2 ^ 149 =
        -(valueOf b * 2 ^ 149 - valueOf a * valueOf c) := by
      rw [valueOf_negate]
      ring
    rw [fpNmsub_eq ha hb hc, maddNum_of_finite hia hic (by rwa [isInf_negate]) (hval ▸ neg_ne_zero.2 h), hval]
    exact negateNum_roundInt (neg_ne_zero.2 h) (neg_neg _).symm nj (by decide)

end

/-- An integer over 2^UIMM in units of the last place of the format (rules R260, R261). -/
theorem fromInteger_eq {k : Int} (hk : k ≠ 0) (u : Nat) :
    fromInteger k u = roundMag false (decide (k < 0)) (k.natAbs * 2 ^ 149) (149 + u) := by
  have hsign : decide (k * 2 ^ 149 < 0) = decide (k < 0) := decide_eq_decide.2 (by omega)
  have habs : (k * 2 ^ 149).natAbs = k.natAbs * 2 ^ 149 := Int.natAbs_mul ..
  rw [fromInteger, if_neg hk, roundInt, hsign, habs]

/-! ### The obligations -/

/-- Settles O54: one case for each class of the operands. -/
theorem floatSpecialOperands : Obligations.FloatSpecialOperands := by
  refine ⟨fun nj x y z draw => ⟨fun ha => ⟨?_, ?_, estimates_of_isNaN ha draw⟩, fun ha hb => ⟨?_, ?_⟩, fun ha hb hc => ?_,
    sum_and_extremum_special, multiplyAdd_special, fun hz => ?_, fun hn hz hs => estimates_of_negative hn hz hs draw⟩,
    estimates_of_infinity⟩
  · simp only [List.forall_mem_cons, List.not_mem_nil, false_imp_iff, implies_true, and_true]
    exact ⟨orNaN2_of_left _ ha, orNaN2_of_left _ ha, orNaN2_of_left _ ha, orNaN2_of_left _ ha⟩
  · simp only [List.forall_mem_cons, List.not_mem_nil, false_imp_iff, implies_true, and_true]
    exact ⟨orNaN3_of_left _ ha, orNaN3_of_left _ ha⟩
  · simp only [List.forall_mem_cons, List.not_mem_nil, false_imp_iff, implies_true, and_true]
    exact ⟨orNaN2_of_right _ ha hb, orNaN2_of_right _ ha hb, orNaN2_of_right _ ha hb, orNaN2_of_right _ ha hb⟩
  · simp only [List.forall_mem_cons, List.not_mem_nil, false_imp_iff, implies_true, and_true]
    exact ⟨(orNaN3_of_not_left _ ha).trans (orNaN2_of_left _ hb), (orNaN3_of_not_left _ ha).trans (orNaN2_of_left _ hb)⟩
  · simp only [List.forall_mem_cons, List.not_mem_nil, false_imp_iff, implies_true, and_true]
    exact ⟨(orNaN3_of_not_left _ ha).trans (orNaN2_of_right _ hb hc),
      (orNaN3_of_not_left _ ha).trans (orNaN2_of_right _ hb hc)⟩
  · obtain ⟨hrecip, hrsqrt, hlog, hexp⟩ := estimates_of_isZero hz draw
    exact ⟨hrecip.trans (infOf_eq _), hrsqrt.trans (infOf_eq _), hlog, hexp⟩

/-- Settles O55: what `roundMag` gives, and the operations whose finite results are one rounding of the exact value. -/
theorem floatResultsRoundToNearest : Obligations.FloatResultsRoundToNearest := by
  refine ⟨fun neg m scale hm hs => ⟨signOf_roundMag .., isNaN_roundMag hm hs .., isInf_roundMag_iff hm hs neg,
    roundMag_error hm hs, ?_⟩, fun nj x y z => arithmetic_of_finite (z := z), fun k u hk => fromInteger_eq hk u,
    fun u => rfl⟩
  rw [roundMag_true_eq hm hs, withSign_zero]

end Sys2Proof.Machine
end

section
/-! Rounding to an integral value (rule R246): every integral value a finite element can round to is a word of the format,
so the result is the integer of the direction, exactly. -/

namespace Sys2Proof.Machine

open Sys2Proof

/-- In every direction the integer is one of the two next to the magnitude. -/
theorem integralMag_cases (d : RoundDir) (neg : Bool) (m : Nat) :
    integralMag d neg m = m / 2 ^ 149 ∨ integralMag d neg m = (m + (2 ^ 149 - 1)) / 2 ^ 149 := by
  cases d
  case near =>
    simp only [integralMag, nearest]
    split <;> omega
  case trunc => exact .inl rfl
  case ceil => cases neg <;> simp [integralMag]
  case floor => cases neg <;> simp [integralMag]

/-- A magnitude that flushing leaves finite rounds to an integer that the format holds. -/
theorem integralMag_representable {x : Word} (h : absBits x < 0x7F800000) (d : RoundDir) (neg : Bool) :
    ∃ q e, integralMag d neg (magOf x) * 2 ^ 149 = q * 2 ^ e ∧ q < 2 ^ 24 ∧ e ≤ 253 := by
  have hcases := integralMag_cases d neg (magOf x)
  obtain ⟨q, e, hm, hq, he, -⟩ := magOf_eq_mul x
  rcases Nat.lt_or_ge e 149 with hsmall | hlarge
  · have hle : magOf x ≤ 2 ^ 23 * 2 ^ 149 := by
      calc magOf x = q * 2 ^ e := hm
        _ ≤ 2 ^ 24 * 2 ^ 148 := Nat.mul_le_mul hq.le (Nat.pow_le_pow_right (by decide) (by omega))
        _ = 2 ^ 23 * 2 ^ 149 := by rw [← pow_add, ← pow_add]
    exact ⟨_, 149, rfl, by omega, by decide⟩
  · have hmul : magOf x = q * 2 ^ (e - 149) * 2 ^ 149 := by rw [hm, mul_assoc, ← pow_add, Nat.sub_add_cancel hlarge]
    exact ⟨q, e, by omega, hq, he h⟩

/-- The rounded element has the sign of the operand and the integer of the direction as its magnitude. -/
theorem fpIntegral_spec {nj : Bool} {y : Word} (hn : isNaN (flushIn nj y) = false) (hi : isInf (flushIn nj y) = false)
    (d : RoundDir) :
    signOf (fpIntegral d nj y) = signOf (flushIn nj y) ∧ isNaN (fpIntegral d nj y) = false ∧
      isInf (fpIntegral d nj y) = false ∧
      magOf (fpIntegral d nj y) = integralMag d (signOf (flushIn nj y)) (magOf (flushIn nj y)) * 2 ^ 149 := by
  have hdef : fpIntegral d nj y =
      if integralMag d (signOf (flushIn nj y)) (magOf (flushIn nj y)) = 0 then withSign (signOf (flushIn nj y)) 0
      else roundMag false (signOf (flushIn nj y))
        (integralMag d (signOf (flushIn nj y)) (magOf (flushIn nj y)) * 2 ^ 149) 149 := by
    simp [fpIntegral, hn, hi]
  rw [hdef]
  split
  · next h0 =>
    have hzero : isZero (withSign (signOf (flushIn nj y)) 0) = true := (isZero_iff _).2 (absBits_withSign _ (by decide))
    rw [h0, Nat.zero_mul]
    exact ⟨signOf_withSign .., isNaN_eq_false_of_isZero hzero, isInf_eq_false_of_isZero hzero,
      (magOf_eq_zero_iff _).2 hzero⟩
  · next h0 =>
    obtain ⟨q, e, hqe, hq, he⟩ := integralMag_representable (absBits_lt_of_finite hn hi) d (signOf (flushIn nj y))
    have hpos : 0 < q * 2 ^ e := by rw [← hqe]; positivity
    obtain ⟨hfin, hmag⟩ := roundMag_exact (scale := 149) le_rfl (Nat.pos_of_mul_pos_right hpos) hq (Nat.zero_le e)
      (by simpa only [Nat.sub_self, pow_zero, mul_one] using mul_two_pow_lt_halfway hq he) (signOf (flushIn nj y))
    rw [hqe]
    exact ⟨signOf_roundMag .., isNaN_roundMag hpos.ne' le_rfl .., hfin, by simpa using hmag⟩

/-- The value of the rounded element, from the two signs and magnitudes. -/
theorem valueOf_fpIntegral {nj : Bool} {y : Word} (hn : isNaN (flushIn nj y) = false) (hi : isInf (flushIn nj y) = false)
    (d : RoundDir) :
    valueOf (fpIntegral d nj y) =
      (if signOf (flushIn nj y) then -1 else 1) *
        (integralMag d (signOf (flushIn nj y)) (magOf (flushIn nj y)) : Int) * 2 ^ 149 := by
  obtain ⟨hsign, -, -, hmag⟩ := fpIntegral_spec hn hi d
  rw [valueOf, hsign, hmag]
  cases signOf (flushIn nj y) <;> simp

/-- The integer of each direction, for a magnitude and its sign. -/
theorem integralMag_value (neg : Bool) (m : Nat) :
    let sign : Int := if neg then -1 else 1
    sign * integralMag .trunc neg m = (sign * m).tdiv (2 ^ 149) ∧
      sign * integralMag .floor neg m = sign * m / 2 ^ 149 ∧
      sign * integralMag .ceil neg m = -(-(sign * m) / 2 ^ 149) ∧
      2 * |sign * integralMag .near neg m * 2 ^ 149 - sign * m| ≤ 2 ^ 149 ∧
      (2 * |sign * integralMag .near neg m * 2 ^ 149 - sign * m| = 2 ^ 149 → sign * integralMag .near neg m % 2 = 0) := by
  intro sign
  have hnear := nearest_spec m (den := 2 ^ 149) (by positivity)
  have heven := nearest_even (num := m) (den := 2 ^ 149) (by positivity)
  have htrunc : ((m / 2 ^ 149 : Nat) : Int) = (m : Int).tdiv (2 ^ 149) := Int.ofNat_tdiv m (2 ^ 149)
  have habs := abs_cases (sign * nearest m (2 ^ 149) * 2 ^ 149 - sign * m)
  simp only [integralMag]
  generalize nearest m (2 ^ 149) = n at *
  cases neg <;> simp only [sign, if_true, Bool.false_eq_true, if_false, one_mul, neg_one_mul, Int.neg_tdiv] at habs ⊢
  all_goals exact ⟨by omega, by omega, by omega, by omega, by omega⟩

/-- Settles O56: a NaN and an infinity keep their bits, and any other element becomes the integer of its direction. -/
theorem integralRounding : Obligations.IntegralRounding := by
  refine fun nj y => ⟨fun hn d => ?_, fun hi d => ?_, fun hn hi => ⟨fun d => ?_, ?_⟩⟩
  · have hx := flushIn_of_isNaN hn
    rw [hx] at hn
    simp [fpIntegral, hx, hn, quiet]
  · simp [fpIntegral, hi, isNaN_eq_false_of_isInf hi]
  · obtain ⟨hsign, hnan, hinf, -⟩ := fpIntegral_spec hn hi d
    exact ⟨hsign, hnan, hinf⟩
  · obtain ⟨htrunc, hfloor, hceil, hnear⟩ := integralMag_value (signOf (flushIn nj y)) (magOf (flushIn nj y))
    have hvalue : valueOf (flushIn nj y) = (if signOf (flushIn nj y) then -1 else 1) * (magOf (flushIn nj y) : Int) := by
      rw [valueOf]
      cases signOf (flushIn nj y) <;> simp
    simp only [valueOf_fpIntegral hn hi]
    rw [hvalue, htrunc, hfloor, hceil]
    exact ⟨rfl, rfl, rfl, _, rfl, hnear⟩

end Sys2Proof.Machine
end

section
/-! The reciprocal estimates (rules R268, R269): what the tests admit and what the fallback rounds to are within the bounds. -/

namespace Sys2Proof.Machine

open Sys2Proof

/-! ### The exact quotient and its sticky bit -/

/-- The integer that `roundQuot` rounds: 65 bits more than the unit 2^-149, the last of them sticky. -/
def stickyQuot (num den : Nat) : Nat :=
  2 * (num * 2 ^ 64 / den) + if num * 2 ^ 64 / den * den = num * 2 ^ 64 then 0 else 1

theorem roundQuot_eq (nj neg : Bool) (num den : Nat) :
    roundQuot nj neg num den = roundMag nj neg (stickyQuot num den) 214 := rfl

/-- The sticky quotient is less than one unit from the exact one. -/
theorem stickyQuot_bounds (num : Nat) {den : Nat} (hd : 0 < den) :
    stickyQuot num den * den < num * 2 ^ 65 + den ∧ num * 2 ^ 65 < stickyQuot num den * den + den := by
  have hdiv := Nat.div_add_mod' (num * 2 ^ 64) den
  have hmod := Nat.mod_lt (num * 2 ^ 64) hd
  have hdouble : num * 2 ^ 65 = 2 * (num * 2 ^ 64) := by ring
  rw [stickyQuot, hdouble]
  split <;> rw [Nat.add_mul, Nat.mul_assoc] <;> omega

/-! ### Rounding of an approximation -/

/-- From 2^-126 on the rounding of an integer is the same for both values of NJ, and is off by at most 2^-24 of it. -/
theorem roundMag_214 {nj neg : Bool} {q : Nat} (hq : 2 ^ 88 ≤ q) :
    roundMag nj neg q 214 = roundMag false neg q 214 ∧
      (isInf (roundMag false neg q 214) = true ↔ (2 ^ 277 - 2 ^ 252) * 2 ^ 65 ≤ q) ∧
      (isInf (roundMag false neg q 214) = false →
        2 ^ 89 * magOf (roundMag false neg q 214) ≤ (2 ^ 24 + 1) * q ∧
        (2 ^ 24 - 1) * q ≤ 2 ^ 89 * magOf (roundMag false neg q 214) ∧ 2 ^ 23 ≤ magOf (roundMag false neg q 214)) := by
  have hq0 : q ≠ 0 := by omega
  refine ⟨?_, by simp only [isInf_roundMag_iff hq0 (show 149 ≤ 214 by decide), Nat.reduceSub], fun hfin => ?_⟩
  · cases nj
    · rfl
    · rw [roundMag_true_eq hq0 (by decide), if_neg (by omega)]
  · have hrel := roundMag_relative (scale := 214) (by decide) (by omega) hfin
    have habs := abs_cases (magOf (roundMag false neg q 214) * 2 ^ 65 - q : Int)
    simp only [Nat.reduceSub] at hrel
    exact ⟨by omega, by omega, by omega⟩

/-- Below 2^-126 the rounding of an integer is a zero with NJ = 1, else at most 2^-126 and off by at most half of 2^-149. -/
theorem roundMag_214_tiny {neg : Bool} {q : Nat} (hq0 : q ≠ 0) (hq : q < 2 ^ 88) :
    roundMag true neg q 214 = withSign neg 0 ∧ isInf (roundMag false neg q 214) = false ∧
      magOf (roundMag false neg q 214) ≤ 2 ^ 23 ∧
      2 ^ 65 * magOf (roundMag false neg q 214) ≤ q + 2 ^ 64 ∧ q ≤ 2 ^ 65 * magOf (roundMag false neg q 214) + 2 ^ 64 := by
  have hfin : isInf (roundMag false neg q 214) = false := by
    rw [Bool.eq_false_iff, ne_eq, isInf_roundMag_iff hq0 (by decide), halfway_eq]
    omega
  have hlog : q.log2 < 88 := (Nat.log2_lt hq0).2 hq
  have hulp : ulpExp q 214 = 65 := by unfold ulpExp; omega
  have herr := (roundMag_error hq0 (scale := 214) (by decide) hfin).1
  rw [hulp] at herr
  simp only [Nat.reduceSub] at herr
  have habs := abs_cases (magOf (roundMag false neg q 214) * 2 ^ 65 - q : Int)
  refine ⟨?_, hfin, by omega, by omega, by omega⟩
  rw [roundMag_true_eq hq0 (by decide), if_pos (by omega)]

/-! ### The reciprocal (rule R268) -/

/-- What `admitted` admits: an infinity where the upper bound overflows, a number between the bounds, or below 2^-126 what a
value between them rounds to. -/
theorem admitted_cases {nj : Bool} {lo hi den : Nat} {e : Word} (h : admitted nj lo hi den e = true) :
    isNaN e = false ∧ (isInf e = true → (2 ^ 277 - 2 ^ 252) * den ≤ hi) ∧
      (isInf e = false →
        (magOf e ≠ 0 ∧ (nj = true → 2 ^ 23 ≤ magOf e) ∧ lo ≤ magOf e * den ∧ magOf e * den ≤ hi) ∨
        (lo < 2 ^ 23 * den ∧ (nj = true → magOf e = 0) ∧
          (nj = false → nearest lo den ≤ magOf e ∧ magOf e ≤ nearest hi den ∧ magOf e ≤ 2 ^ 23))) := by
  have hdenormal : magOf e ≠ 0 → isDenormal e = false → 2 ^ 23 ≤ magOf e := fun h0 hd => by
    rw [Ne, magOf_eq_zero_iff, isZero_iff] at h0
    rw [← Bool.not_eq_true, isDenormal_iff] at hd
    rw [← Nat.not_lt, magOf_lt_iff]
    omega
  simp only [admitted] at h
  split at h
  · cases h
  next hn =>
  refine ⟨Bool.eq_false_iff.2 hn, ?_⟩
  split at h
  · next hi => exact ⟨fun _ => of_decide_eq_true h, fun hf => absurd hi (Bool.eq_false_iff.1 hf)⟩
  next hi =>
  refine ⟨fun hi' => absurd hi' hi, fun _ => ?_⟩
  simp only [Bool.or_eq_true, Bool.and_eq_true, bne_iff_ne, Bool.not_eq_true', decide_eq_true_eq] at h
  rcases h with ⟨⟨⟨h0, hd⟩, hlo⟩, hhi⟩ | ⟨hlo, h⟩
  · exact .inl ⟨h0, fun hnj => hdenormal h0 (hd.resolve_left (by simp [hnj])), hlo, hhi⟩
  · refine .inr ⟨hlo, fun hnj => ?_, fun hnj => ?_⟩
    · simpa [hnj] using h
    · simpa [hnj, and_assoc] using h

section
variable {nj : Bool} {x e : Word}

/-- The four ways to be a permitted reciprocal: near the exact one, an infinity where that nearly overflows, at most 2^-126
and rounded there, or with NJ = 1 a zero. -/
theorem recipBound_of_near (hs : signOf e = signOf x) (hn : isNaN e = false) (hi : isInf e = false)
    (hnormal : nj = true → 2 ^ 23 ≤ magOf e) (herr : 4096 * |(magOf e * magOf x - 2 ^ 298 : Int)| ≤ 2 ^ 298) :
    RecipBound nj x e := by
  refine ⟨hs, hn, fun h => absurd h (by simp [hi]), fun _ h => ⟨?_, herr⟩, fun _ _ => ?_, fun hnj h0 => ?_⟩
  · rcases h with h | ⟨h, -⟩
    · exact h.le
    · exact_mod_cast hnormal h
  · have : (0 : Int) ≤ magOf x := Int.natCast_nonneg _
    generalize (2 ^ 298 : Int) = k at *
    linarith
  · have := hnormal hnj
    omega

theorem recipBound_of_isInf (hs : signOf e = signOf x) (hi : isInf e = true)
    (h : (2 ^ 277 - 2 ^ 252) * (4096 * magOf x) ≤ 4097 * 2 ^ 298) : RecipBound nj x e := by
  have hbig : (2 ^ 23 : Int) < magOf e := by exact_mod_cast lt_magOf_of_isInf hi
  refine ⟨hs, isNaN_eq_false_of_isInf hi, fun _ => ?_, fun h => absurd h (by simp [hi]),
    fun _ hle => absurd hle (not_le.2 hbig), fun _ h0 => absurd hbig (by rw [h0]; decide)⟩
  have hcast : (2 ^ 277 - 2 ^ 252 : Int) = (2 ^ 277 - 2 ^ 252 : Nat) := by
    rw [Nat.cast_sub (pow_le_pow_right₀ (by decide) (by decide)), Nat.cast_pow, Nat.cast_pow, Nat.cast_ofNat]
  rw [hcast]
  exact_mod_cast h

theorem recipBound_of_tiny (hs : signOf e = signOf x) (hn : isNaN e = false) (hi : isInf e = false)
    (hsmall : magOf e ≤ 2 ^ 23)
    (herr : 2 * 4096 * |(magOf e * magOf x - 2 ^ 298 : Int)| ≤ 2 * 2 ^ 298 + 4096 * magOf x) : RecipBound false x e :=
  ⟨hs, hn, fun h => absurd h (by simp [hi]), fun _ h => by simp at h; omega, fun _ _ => herr, fun h => by cases h⟩

theorem recipBound_of_flush (hs : signOf e = signOf x) (hz : isZero e = true)
    (h : 4095 * 2 ^ 298 < 2 ^ 23 * (4096 * magOf x)) : RecipBound true x e := by
  have h0 : magOf e = 0 := (magOf_eq_zero_iff e).2 hz
  refine ⟨hs, isNaN_eq_false_of_isZero hz, fun hi => absurd hi (by simp [isInf_eq_false_of_isZero hz]), fun _ hbig => ?_,
    fun hnj => absurd hnj (by decide), fun _ _ => by exact_mod_cast h⟩
  simp [h0] at hbig

/-- An admitted reciprocal is within the bound. -/
theorem recipBound_of_recipOk (hx : 0 < magOf x) (h : recipOk nj x e = true) : RecipBound nj x e := by
  simp only [recipOk, Bool.and_eq_true, beq_iff_eq] at h
  obtain ⟨hsign, hadm⟩ := h
  obtain ⟨hnan, hinf, hfin⟩ := admitted_cases hadm
  have hpow : (2 ^ 298 : Int) = (2 ^ 298 : Nat) := by rw [Nat.cast_pow, Nat.cast_ofNat]
  have hprod : magOf e * (4096 * magOf x) = 4096 * (magOf e * magOf x) := Nat.mul_left_comm ..
  have hlow := (nearest_spec (2 ^ 298 * 4095) (den := 4096 * magOf x) (by omega)).2
  have hhigh := (nearest_spec (2 ^ 298 * 4097) (den := 4096 * magOf x) (by omega)).1
  have habs := abs_cases ((magOf e * magOf x : Nat) - (2 ^ 298 : Nat) : Int)
  cases hi : isInf e with
  | true => exact recipBound_of_isInf hsign hi ((hinf hi).trans_eq (mul_comm ..))
  | false =>
    rcases hfin hi with ⟨-, hnormal, hlo, hhi⟩ | ⟨hlo, hzero, hround⟩
    · refine recipBound_of_near hsign hnan hi hnormal ?_
      rw [hpow, ← Nat.cast_mul]
      generalize (2 ^ 298 : Nat) = k at *
      omega
    · cases nj with
      | true =>
        refine recipBound_of_flush hsign ((magOf_eq_zero_iff e).1 (hzero rfl)) ?_
        generalize (2 ^ 298 : Nat) = k at *
        omega
      | false =>
        obtain ⟨hge, hle, hsmall⟩ := hround rfl
        refine recipBound_of_tiny hsign hnan hi hsmall ?_
        have hge' := Nat.mul_le_mul_right (4096 * magOf x) hge
        have hle' := Nat.mul_le_mul_right (4096 * magOf x) hle
        rw [hpow, ← Nat.cast_mul]
        generalize (2 ^ 298 : Nat) = k at *
        omega

/-- The correctly rounded reciprocal is within the bound. -/
theorem recipBound_of_roundQuot (hx : 0 < magOf x) (hfin : magOf x < 2 ^ 277) :
    RecipBound nj x (roundQuot nj (signOf x) (2 ^ 298) (magOf x)) := by
  obtain ⟨hupper, hlower⟩ := stickyQuot_bounds (2 ^ 298) hx
  rw [roundQuot_eq]
  have hpow : (2 ^ 298 : Int) = (2 ^ 298 : Nat) := by rw [Nat.cast_pow, Nat.cast_ofNat]
  have hsize : magOf x * 2 ^ 21 < 2 ^ 298 := by
    rw [show 2 ^ 298 = 2 ^ 277 * 2 ^ 21 by rw [← pow_add]]
    exact Nat.mul_lt_mul_of_pos_right hfin (by decide)
  generalize stickyQuot (2 ^ 298) (magOf x) = q at *
  rcases Nat.lt_or_ge q (2 ^ 88) with hq | hq
  · have hq0 : q ≠ 0 := by
      rintro rfl
      generalize (2 ^ 298 : Nat) = k at *
      omega
    obtain ⟨hflush, hi, hsmall, herr⟩ := roundMag_214_tiny (neg := signOf x) hq0 hq
    have hq' : q * magOf x + magOf x ≤ 2 ^ 88 * magOf x := by
      rw [← Nat.succ_mul]
      exact Nat.mul_le_mul_right _ hq
    cases nj with
    | true =>
      rw [hflush]
      refine recipBound_of_flush (signOf_withSign ..) ((isZero_iff _).2 (absBits_withSign _ (by decide))) ?_
      generalize (2 ^ 298 : Nat) = k at *
      omega
    | false =>
      refine recipBound_of_tiny (signOf_roundMag ..) (isNaN_roundMag hq0 (by decide) ..) hi hsmall ?_
      obtain ⟨hupper', hlower'⟩ := herr
      have hup := Nat.mul_le_mul_right (magOf x) hupper'
      have hlo := Nat.mul_le_mul_right (magOf x) hlower'
      rw [Nat.add_mul, Nat.mul_assoc] at hup hlo
      have habs := abs_cases ((magOf (roundMag false (signOf x) q 214) * magOf x : Nat) - (2 ^ 298 : Nat) : Int)
      rw [hpow, ← Nat.cast_mul]
      generalize (2 ^ 298 : Nat) = k at *
      omega
  · obtain ⟨hnj, hover, hrel⟩ := roundMag_214 (nj := nj) (neg := signOf x) hq
    rw [hnj]
    cases hi : isInf (roundMag false (signOf x) q 214) with
    | true =>
      refine recipBound_of_isInf (signOf_roundMag ..) hi ?_
      have hmul := Nat.mul_le_mul_right (magOf x) (hover.1 hi)
      rw [Nat.mul_right_comm] at hmul
      rw [Nat.mul_left_comm]
      generalize (2 ^ 277 - 2 ^ 252) * magOf x = p at *
      generalize (2 ^ 298 : Nat) = k at *
      omega
    | false =>
      obtain ⟨hupper', hlower', hnormal⟩ := hrel hi
      refine recipBound_of_near (signOf_roundMag ..) (isNaN_roundMag (by omega) (by decide) ..) hi (fun _ => hnormal) ?_
      have hup := Nat.mul_le_mul_right (magOf x) hupper'
      have hlo := Nat.mul_le_mul_right (magOf x) hlower'
      rw [Nat.mul_assoc, Nat.mul_assoc] at hup hlo
      have habs := abs_cases ((magOf (roundMag false (signOf x) q 214) * magOf x : Nat) - (2 ^ 298 : Nat) : Int)
      rw [hpow, ← Nat.cast_mul]
      generalize (2 ^ 298 : Nat) = k at *
      omega

end

/-! ### The reciprocal square root (rule R269) -/

/-- An admitted reciprocal square root is within the bound, which the test decides exactly. -/
theorem rsqrtBound_of_rsqrtOk {x e : Word} (h : rsqrtOk x e = true) : RsqrtBound x e := by
  simp only [rsqrtOk, Bool.and_eq_true, Bool.not_eq_true', decide_eq_true_eq, and_assoc] at h
  exact h

/-- The integer that `rsqrtNear` rounds: twice the integer root, with a sticky bit. -/
def stickyRoot (m : Nat) : Nat :=
  let t := rootBits (2 ^ 575 / m) 300 0
  2 * t + if t * t * m = 2 ^ 575 then 0 else 1

theorem rsqrtNear_eq (m : Nat) : rsqrtNear m = roundMag false false (stickyRoot m) 214 := rfl

/-- The sticky root is between two even integers whose squares enclose the exact one. -/
theorem stickyRoot_bounds {m : Nat} (hm : 0 < m) :
    ∃ a, a ≤ stickyRoot m ∧ stickyRoot m ≤ a + 1 ∧ a * a * m ≤ 2 ^ 577 ∧ 2 ^ 577 ≤ (a + 2) * (a + 2) * m := by
  have hlt : 2 ^ 575 / m < (0 + 2 ^ 300) * (0 + 2 ^ 300) := by
    rw [Nat.zero_add, ← pow_add]
    calc 2 ^ 575 / m ≤ 2 ^ 575 := Nat.div_le_self ..
      _ < 2 ^ (300 + 300) := pow_lt_pow_right₀ (by decide) (by decide)
  obtain ⟨hlow, hhigh⟩ := rootBits_spec (2 ^ 575 / m) 300 0 (Nat.zero_le _) hlt
  have hdouble : (2 : Nat) ^ 577 = 2 ^ 2 * 2 ^ 575 := by rw [← pow_add]
  simp only [stickyRoot, hdouble]
  generalize rootBits (2 ^ 575 / m) 300 0 = t at *
  rw [Nat.le_div_iff_mul_le hm] at hlow
  rw [Nat.div_lt_iff_lt_mul hm] at hhigh
  generalize (2 ^ 575 : Nat) = k at *
  refine ⟨2 * t, Nat.le_add_right .., by split <;> omega, ?_, ?_⟩ <;> nlinarith

/-- The correctly rounded reciprocal square root is within the bound. -/
theorem rsqrtBound_of_rsqrtNear {x : Word} (hx : 0 < magOf x) (hfin : magOf x < 2 ^ 277) :
    RsqrtBound x (rsqrtNear (magOf x)) := by
  obtain ⟨a, hlow, hhigh, hsq, hsq'⟩ := stickyRoot_bounds hx
  have hlarge : 2 ^ 88 ≤ a := by
    by_contra hlt
    have hroot : (a + 2) * (a + 2) ≤ 2 ^ (149 + 149) := by
      rw [pow_add]
      exact Nat.mul_le_mul (by omega) (by omega)
    have hle : 2 ^ 577 ≤ 2 ^ (149 + 149) * 2 ^ 277 := hsq'.trans (Nat.mul_le_mul hroot hfin.le)
    rw [← pow_add] at hle
    exact absurd ((pow_le_pow_iff_right₀ (by decide)).1 hle) (by decide)
  have hsmall : a < 2 ^ 289 := by
    by_contra hge
    have hroot : 2 ^ (289 + 289) ≤ a * a := by
      rw [pow_add]
      exact mul_self_le_mul_self (Nat.zero_le _) (not_lt.1 hge)
    have hle : 2 ^ (289 + 289) ≤ 2 ^ 577 := (hroot.trans (Nat.le_mul_of_pos_right _ hx)).trans hsq
    exact absurd ((pow_le_pow_iff_right₀ (by decide)).1 hle) (by decide)
  obtain ⟨-, hover, hrel⟩ := roundMag_214 (nj := false) (neg := false) (hlarge.trans hlow)
  have hi : isInf (roundMag false false (stickyRoot (magOf x)) 214) = false := by
    rw [Bool.eq_false_iff, Ne, hover, Nat.not_le, halfway_eq]
    calc stickyRoot (magOf x) ≤ 2 ^ 289 := hhigh.trans hsmall
      _ < 2 ^ (252 + 65) := pow_lt_pow_right₀ (by decide) (by decide)
      _ = 1 * 2 ^ 252 * 2 ^ 65 := by rw [pow_add, Nat.one_mul]
      _ ≤ (2 * 2 ^ 24 - 1) * 2 ^ 252 * 2 ^ 65 := Nat.mul_le_mul_right _ (Nat.mul_le_mul_right _ (by decide))
  obtain ⟨hup, hlo, -⟩ := hrel hi
  rw [rsqrtNear_eq]
  refine ⟨signOf_roundMag .., isNaN_roundMag (by omega) (by decide) .., hi, ?_, ?_⟩
  all_goals
    refine Nat.le_of_mul_le_mul_right (c := 2 ^ 130) ?_ (by positivity)
    generalize magOf (roundMag false false (stickyRoot (magOf x)) 214) = n at *
  · have hn : 4095 * (a + 2) ≤ 4096 * (2 ^ 65 * n) := by omega
    calc 4095 ^ 2 * 2 ^ 447 * 2 ^ 130 = 4095 * 4095 * 2 ^ 577 := by rw [mul_assoc, ← pow_add, pow_two]
      _ ≤ 4095 * 4095 * ((a + 2) * (a + 2) * magOf x) := Nat.mul_le_mul_left _ hsq'
      _ = 4095 * (a + 2) * (4095 * (a + 2)) * magOf x := by ring
      _ ≤ 4096 * (2 ^ 65 * n) * (4096 * (2 ^ 65 * n)) * magOf x := Nat.mul_le_mul_right _ (Nat.mul_le_mul hn hn)
      _ = 4096 ^ 2 * n ^ 2 * magOf x * 2 ^ 130 := by ring
  · have hn : 4096 * (2 ^ 65 * n) ≤ 4097 * a := by omega
    calc 4096 ^ 2 * n ^ 2 * magOf x * 2 ^ 130 = 4096 * (2 ^ 65 * n) * (4096 * (2 ^ 65 * n)) * magOf x := by ring
      _ ≤ 4097 * a * (4097 * a) * magOf x := Nat.mul_le_mul_right _ (Nat.mul_le_mul hn hn)
      _ = 4097 * 4097 * (a * a * magOf x) := by ring
      _ ≤ 4097 * 4097 * 2 ^ 577 := Nat.mul_le_mul_left _ hsq
      _ = 4097 ^ 2 * 2 ^ 447 * 2 ^ 130 := by rw [mul_assoc (4097 ^ 2), ← pow_add, pow_two]

end Sys2Proof.Machine
end

section
/-! The logarithm estimate (rule R270): the interval that holds the logarithm, its distance from zero, and the rounding of the
interval's middle. -/

namespace Sys2Proof.Machine

open Sys2Proof

/-! ### Rounding of a signed approximation -/

theorem abs_ratOf_sub (e : Word) (t : ℝ) : |(ratOf e : ℝ) - t| = |(valueOf e : ℝ) - 2 ^ 149 * t| / 2 ^ 149 := by
  have hsplit : (ratOf e : ℝ) - t = ((valueOf e : ℝ) - 2 ^ 149 * t) / 2 ^ 149 := by
    simp only [ratOf, Rat.cast_div, Rat.cast_intCast, Rat.cast_pow, Rat.cast_ofNat]
    field_simp
  rw [hsplit, abs_div, abs_of_pos (show (0 : ℝ) < 2 ^ 149 by positivity)]

/-- From 2^-126 on the rounding error of a signed value is at most 2^-24 of it. -/
theorem roundInt_relative {v : Int} {scale : Nat} (hs : 149 ≤ scale) (hv : 2 ^ 23 * 2 ^ (scale - 149) ≤ v.natAbs)
    (hfin : isInf (roundInt false v scale) = false) :
    2 ^ 24 * |valueOf (roundInt false v scale) * 2 ^ (scale - 149) - v| ≤ |v| := by
  have hrel := roundMag_relative hs hv hfin
  have hsign : signOf (roundInt false v scale) = decide (v < 0) := signOf_roundMag ..
  rw [valueOf, hsign]
  rw [Int.natCast_natAbs] at hrel
  rcases lt_or_ge v 0 with hneg | hpos
  · rw [abs_of_neg hneg] at hrel ⊢
    rw [decide_eq_true hneg, if_pos rfl, ← abs_neg]
    convert hrel using 3
    rw [roundInt]
    simp only [hneg, decide_true]
    ring
  · rw [abs_of_nonneg hpos] at hrel ⊢
    rw [decide_eq_false (not_lt.2 hpos), if_neg (by decide)]
    exact hrel

/-! ### The interval of the logarithm -/

/-- A word has no more than 24 significant bits. -/
theorem two_pow_log2_dvd (x : Word) : 2 ^ (magOf x).log2 ∣ magOf x * 2 ^ 192 := by
  obtain ⟨q, e, hm, hq, -, -⟩ := magOf_eq_mul x
  rcases Nat.eq_zero_or_pos (magOf x) with h0 | hpos
  · rw [h0, Nat.zero_mul]
    exact dvd_zero _
  · have hlog : (magOf x).log2 < 24 + e := by
      rw [Nat.log2_lt hpos.ne', hm, pow_add]
      exact Nat.mul_lt_mul_of_pos_right hq (by positivity)
    have hsplit : magOf x * 2 ^ 192 = 2 ^ (e + 192) * q := by rw [hm, pow_add]; ring
    rw [hsplit]
    exact Dvd.dvd.mul_right (pow_dvd_pow 2 (by omega)) q

/-- The bounds hold the logarithm of a positive finite word, in units of 2^-149, and are two units apart at most; those of 1
meet. -/
theorem logBounds_spec {x : Word} (hs : signOf x = false) (h0 : 0 < magOf x) :
    ((logBounds (magOf x)).1 : ℝ) ≤ 2 ^ 149 * Real.logb 2 (ratOf x) ∧
      2 ^ 149 * Real.logb 2 (ratOf x) ≤ (logBounds (magOf x)).2 ∧
      (logBounds (magOf x)).2 ≤ (logBounds (magOf x)).1 + 2 ∧
      (magOf x = 2 ^ 149 → (logBounds (magOf x)).2 = (logBounds (magOf x)).1) := by
  obtain ⟨hlow, hhigh⟩ := logFloor_spec h0.ne' (two_pow_log2_dvd x)
  rw [ratOf_of_pos hs]
  refine ⟨hlow, ?_, ?_, fun h1 => ?_⟩
  · simp only [logBounds]
    split
    · next hpow =>
      have hlog : Real.logb 2 (magOf x / 2 ^ 149) = (magOf x).log2 - 149 := by
        have hcast : (magOf x : ℝ) = 2 ^ (magOf x).log2 := by exact_mod_cast hpow
        rw [Real.logb_div (by positivity) (by positivity), Real.logb_pow, Real.logb_self_eq_one (by norm_num), hcast,
          Real.logb_pow, Real.logb_self_eq_one (by norm_num)]
        norm_num
      rw [hlog, logFloor]
      push_cast
      have : (0 : ℝ) ≤ (logBits 149 (magOf x * 2 ^ 192 / 2 ^ (magOf x).log2) 0 : ℕ) := Nat.cast_nonneg _
      linarith
    · push_cast
      exact hhigh.le
  · simp only [logBounds]
    split <;> omega
  · have hlog2 : magOf x = 2 ^ (magOf x).log2 := by rw [h1, Nat.log2_two_pow]
    simp only [logBounds, if_pos hlog2]

/-! ### Logarithms next to zero -/

/-- A word other than 1 is at least one place of its format from it. -/
theorem magOf_away_from_one {x : Word} (h : magOf x ≠ 2 ^ 149) :
    2 ^ 149 + 2 ^ 126 ≤ magOf x ∨ magOf x + 2 ^ 125 ≤ 2 ^ 149 := by
  obtain ⟨q, e, hm, hq, -, -⟩ := magOf_eq_mul x
  have hexp : ∀ k, 2 ^ (24 + k) ≤ magOf x → ∃ r, magOf x = r * 2 ^ (k + 1) := fun k hk => by
    have hlt : k < e := by
      have hpow : 2 ^ 24 * 2 ^ k < 2 ^ 24 * 2 ^ e := by
        calc 2 ^ 24 * 2 ^ k = 2 ^ (24 + k) := (pow_add ..).symm
          _ ≤ q * 2 ^ e := hm ▸ hk
          _ < 2 ^ 24 * 2 ^ e := Nat.mul_lt_mul_of_pos_right hq (by positivity)
      exact (Nat.pow_lt_pow_iff_right (by decide)).1 (Nat.lt_of_mul_lt_mul_left hpow)
    exact ⟨q * 2 ^ (e - (k + 1)), by rw [hm, mul_assoc, ← pow_add, Nat.sub_add_cancel hlt]⟩
  rcases Nat.lt_or_gt_of_ne h with hlt | hgt
  · rcases Nat.lt_or_ge (magOf x) (2 ^ 148) with hsmall | hlarge
    · omega
    · obtain ⟨r, hr⟩ := hexp 124 hlarge
      omega
  · obtain ⟨r, hr⟩ := hexp 125 hgt.le
    omega

/-- The logarithm to base 2 is larger in magnitude than the natural one. -/
theorem abs_log_le_abs_logb (t : ℝ) : |Real.log t| ≤ |Real.logb 2 t| := by
  have hpos : 0 < Real.log 2 := Real.log_pos (by norm_num)
  have hone : Real.log 2 ≤ 1 := by linarith [Real.log_two_lt_d9]
  rw [Real.logb, abs_div, abs_of_pos hpos]
  exact le_div_self (abs_nonneg _) hpos hone

/-- The logarithm of a positive finite word other than 1 is at least 2^-24 and at most 2^8 in magnitude. -/
theorem abs_logb_bounds {x : Word} (hs : signOf x = false) (h0 : 0 < magOf x) (hfin : magOf x < 2 ^ 277)
    (h1 : magOf x ≠ 2 ^ 149) :
    1 / 2 ^ 24 ≤ |Real.logb 2 (ratOf x)| ∧ |Real.logb 2 (ratOf x)| ≤ 2 ^ 8 := by
  rw [ratOf_of_pos hs]
  have hpos : (1 : ℝ) ≤ magOf x := by exact_mod_cast h0
  constructor
  · refine le_trans ?_ (abs_log_le_abs_logb _)
    rcases magOf_away_from_one h1 with habove | hbelow
    · have hle : (2 ^ 149 + 2 ^ 126 : ℝ) ≤ magOf x := by exact_mod_cast habove
      have ht : 1 + 1 / 2 ^ 23 ≤ (magOf x : ℝ) / 2 ^ 149 := by
        rw [le_div_iff₀ (by positivity)]
        norm_num at hle ⊢
        linarith
      have hinv : ((magOf x : ℝ) / 2 ^ 149)⁻¹ ≤ (1 + 1 / 2 ^ 23)⁻¹ := inv_anti₀ (by positivity) ht
      have hlog := Real.one_sub_inv_le_log_of_pos (show 0 < (magOf x : ℝ) / 2 ^ 149 by positivity)
      have hconst : (1 + 1 / 2 ^ 23 : ℝ)⁻¹ ≤ 1 - 1 / 2 ^ 24 := by norm_num
      refine le_trans ?_ (le_abs_self _)
      linarith
    · have hle : (magOf x + 2 ^ 125 : ℝ) ≤ 2 ^ 149 := by exact_mod_cast hbelow
      have ht : (magOf x : ℝ) / 2 ^ 149 ≤ 1 - 1 / 2 ^ 24 := by
        rw [div_le_iff₀ (by positivity)]
        norm_num at hle ⊢
        linarith
      have hlog := Real.log_le_sub_one_of_pos (show 0 < (magOf x : ℝ) / 2 ^ 149 by positivity)
      refine le_trans ?_ (neg_le_abs _)
      linarith
  · have hlt : (magOf x : ℝ) ≤ 2 ^ 277 := by exact_mod_cast hfin.le
    rw [abs_le, Real.le_logb_iff_rpow_le (by norm_num) (by positivity),
      Real.logb_le_iff_le_rpow (by norm_num) (by positivity)]
    have hexp : ((2 : ℝ) ^ 8) = (256 : ℕ) := by norm_num
    rw [Real.rpow_neg (by norm_num), hexp, Real.rpow_natCast, le_div_iff₀ (by positivity), div_le_iff₀ (by positivity),
      ← pow_add]
    constructor
    · refine le_trans ?_ hpos
      rw [inv_mul_le_iff₀ (by positivity), mul_one]
      exact pow_le_pow_right₀ (by norm_num) (by norm_num)
    · exact hlt.trans (pow_le_pow_right₀ (by norm_num) (by norm_num))

/-! ### The two results of the estimate -/

/-- A value whose double is the rounding of an integer that is within 2 of the double of t. -/
theorem abs_sub_le_of_double {v sum t : ℝ} (hmid : |sum - 2 * t| ≤ 2) (hround : 2 ^ 24 * |v * 2 - sum| ≤ |sum|)
    (ht : 2 ^ 125 ≤ |t|) : |v - t| ≤ |t| / 2 ^ 20 := by
  have hdouble : 2 * |v - t| = |(v * 2 - sum) + (sum - 2 * t)| := by
    rw [← abs_of_pos (show (0 : ℝ) < 2 by norm_num), ← abs_mul, abs_of_pos (show (0 : ℝ) < 2 by norm_num)]
    congr 1
    ring
  have hsum : |sum| ≤ |sum - 2 * t| + 2 * |t| := by
    have := abs_add_le (sum - 2 * t) (2 * t)
    rwa [sub_add_cancel, abs_mul, abs_of_pos (show (0 : ℝ) < 2 by norm_num)] at this
  have htri := abs_add_le (v * 2 - sum) (sum - 2 * t)
  norm_num at *
  linarith

/-- The middle of the interval, rounded, is within the bound. -/
theorem logBound_of_middle {x : Word} {lo hi : Int} (h1 : (lo : ℝ) ≤ 2 ^ 149 * Real.logb 2 (ratOf x))
    (h2 : 2 ^ 149 * Real.logb 2 (ratOf x) ≤ hi) (h3 : hi ≤ lo + 2) (hlarge : 1 / 2 ^ 24 ≤ |Real.logb 2 (ratOf x)|)
    (hsmall : |Real.logb 2 (ratOf x)| ≤ 2 ^ 8) :
    lo + hi ≠ 0 ∧ LogBound x (roundInt false (lo + hi) 150) := by
  have habs : |2 ^ 149 * Real.logb 2 (ratOf x)| = 2 ^ 149 * |Real.logb 2 (ratOf x)| := by
    rw [abs_mul, abs_of_pos (show (0 : ℝ) < 2 ^ 149 by positivity)]
  have hlog8 : |Real.logb 2 (ratOf x)| / 8 = |2 ^ 149 * Real.logb 2 (ratOf x)| / 8 / 2 ^ 149 := by
    rw [habs]
    field_simp
  have ht1 : 2 ^ 125 ≤ |2 ^ 149 * Real.logb 2 (ratOf x)| := by
    rw [habs]
    norm_num at hlarge ⊢
    linarith
  have ht2 : |2 ^ 149 * Real.logb 2 (ratOf x)| ≤ 2 ^ 157 := by
    rw [habs]
    norm_num at hsmall ⊢
    linarith
  simp only [LogBound, abs_ratOf_sub, hlog8]
  generalize 2 ^ 149 * Real.logb 2 (ratOf x) = t at *
  have h3' : (hi : ℝ) ≤ lo + 2 := by exact_mod_cast h3
  have hmid : |((lo + hi : Int) : ℝ) - 2 * t| ≤ 2 := by
    push_cast
    rw [abs_le]
    constructor <;> linarith
  generalize lo + hi = sum at *
  have hsize : 2 ^ 124 ≤ |sum| ∧ |sum| ≤ 2 ^ 159 := by
    have hlow := abs_sub_abs_le_abs_sub (2 * t) (sum : ℝ)
    have hhigh := abs_sub_abs_le_abs_sub (sum : ℝ) (2 * t)
    rw [abs_sub_comm] at hlow
    rw [abs_mul, abs_of_pos (show (0 : ℝ) < 2 by norm_num)] at hlow hhigh
    have hreal : (2 ^ 124 : ℝ) ≤ |(sum : ℝ)| ∧ |(sum : ℝ)| ≤ 2 ^ 159 := by
      norm_num at ht1 ht2 ⊢
      constructor <;> linarith
    exact_mod_cast hreal
  rw [Int.abs_eq_natAbs] at hsize
  have h0 : sum.natAbs ≠ 0 := by omega
  have hfin : isInf (roundInt false sum 150) = false := by
    rw [roundInt, Bool.eq_false_iff, Ne, isInf_roundMag_iff h0 (by decide), halfway_eq, Nat.not_le]
    omega
  have hrel : 2 ^ 24 * |(valueOf (roundInt false sum 150) : ℝ) * 2 - sum| ≤ |(sum : ℝ)| := by
    exact_mod_cast roundInt_relative (scale := 150) (by decide) (by omega) hfin
  have herr := abs_sub_le_of_double hmid hrel ht1
  refine ⟨by omega, isNaN_roundMag h0 (by decide) .., hfin, ?_, ?_⟩
  · rw [div_le_iff₀ (by positivity)]
    norm_num at ht2 herr ⊢
    linarith
  · refine div_le_div_of_nonneg_right (herr.trans ?_) (by positivity)
    exact div_le_div_of_nonneg_left (abs_nonneg _) (by norm_num) (by norm_num)

theorem estLog2_of_finite {nj : Bool} {y : Word} (draw : Word) (hn : isNaN (flushIn nj y) = false)
    (hi : isInf (flushIn nj y) = false) (hz : isZero (flushIn nj y) = false) (hs : signOf (flushIn nj y) = false) :
    estLog2 nj draw y =
      let bounds := logBounds (magOf (flushIn nj y))
      estimate (logOk bounds.1 bounds.2)
        (if bounds.1 + bounds.2 = 0 then 0 else roundInt false (bounds.1 + bounds.2) 150) draw := by
  simp only [estLog2, hn, hi, hz, hs, Bool.false_eq_true, if_false]

/-- Every estimate of the logarithm of a positive finite element is within the bound. -/
theorem logBound_estLog2 {nj : Bool} {y : Word} (draw : Word) (hn : isNaN (flushIn nj y) = false)
    (hi : isInf (flushIn nj y) = false) (hz : isZero (flushIn nj y) = false) (hs : signOf (flushIn nj y) = false) :
    LogBound (flushIn nj y) (estLog2 nj draw y) := by
  have hpos := magOf_pos hz
  have hfin := magOf_lt_of_finite hn hi
  rw [estLog2_of_finite draw hn hi hz hs, estimate]
  generalize flushIn nj y = x at *
  obtain ⟨hlow, hhigh, hwidth, hone⟩ := logBounds_spec hs hpos
  generalize logBounds (magOf x) = bounds at *
  split
  · next hok => exact logOk_bound hok hlow hhigh
  · by_cases h1 : magOf x = 2 ^ 149
    · have hlog : Real.logb 2 (ratOf x) = 0 := by
        rw [ratOf_of_pos hs, h1]
        norm_num
      rw [hlog, mul_zero] at hlow hhigh
      have hlow' : bounds.1 ≤ 0 := by exact_mod_cast hlow
      have hhigh' : 0 ≤ bounds.2 := by exact_mod_cast hhigh
      have := hone h1
      rw [if_pos (by omega), LogBound, hlog]
      have hzero : (ratOf 0 : ℝ) = 0 := by
        rw [ratOf_of_pos (by decide), (magOf_eq_zero_iff 0).2 (by decide)]
        simp
      rw [hzero]
      exact ⟨by decide, by decide, by norm_num, by norm_num⟩
    · obtain ⟨hlarge, hsmall⟩ := abs_logb_bounds hs hpos hfin h1
      obtain ⟨h0, hbound⟩ := logBound_of_middle hlow hhigh hwidth hlarge hsmall
      rw [if_neg h0]
      exact hbound

end Sys2Proof.Machine
end

section
/-! The power-of-two estimate (rule R271): the four ways to be a permitted power, the rounding of the interval's middle, and
the bounds of all four estimates. -/

namespace Sys2Proof.Machine

open Sys2Proof

/-! ### Permitted powers -/

/-- What holds of an estimate `e` of the power `p` that is neither exact nor out of range; `tiny` where p is below 2^-126. -/
def PowEstimate (nj tiny : Bool) (p : ℝ) (e : Word) : Prop :=
  signOf e = false ∧ isNaN e = false ∧ (isInf e = true → 2 ^ 128 - 2 ^ 103 ≤ 17 / 16 * p) ∧
    (isInf e = false → tiny = false →
      if nj = true ∧ magOf e = 0 then 15 / 16 * p < 1 / 2 ^ 126
      else (nj = true → 2 ^ 23 ≤ magOf e) ∧ |ratOf e - p| ≤ p / 16) ∧
    (isInf e = false → tiny = true → magOf e ≤ 2 ^ 23 ∧ |ratOf e - p| ≤ p / 16 + 1 / 2 ^ 150)

/-- A power of two with an exponent below an integer is below the power of that integer. -/
theorem rpow_lt_zpow {r : ℝ} {k : ℤ} (h : r < k) : (2 : ℝ) ^ r < 2 ^ k := by
  rw [← Real.rpow_intCast]
  exact Real.rpow_lt_rpow_of_exponent_lt (by norm_num) h

theorem zpow_le_rpow {r : ℝ} {k : ℤ} (h : k ≤ r) : (2 : ℝ) ^ k ≤ 2 ^ r := by
  rw [← Real.rpow_intCast]
  exact Real.rpow_le_rpow_of_exponent_le (by norm_num) h

theorem rpow_le_zpow {r : ℝ} {k : ℤ} (h : r ≤ k) : (2 : ℝ) ^ r ≤ 2 ^ k := by
  rw [← Real.rpow_intCast]
  exact Real.rpow_le_rpow_of_exponent_le (by norm_num) h

theorem eq_zero_iff_of_pos {e : Word} (hs : signOf e = false) : e = 0 ↔ magOf e = 0 := by
  rw [magOf_eq_zero_iff]
  refine ⟨fun h => by rw [h]; decide, fun h => ?_⟩
  rw [isZero_eq_withSign h, hs]
  decide

section
variable {nj : Bool} {x e : Word}

/-- From 128 on the power is an infinity. -/
theorem powBound_overflow (h : 128 ≤ ratOf x) : PowBound nj x 0x7F800000 := by
  have hreal : ((128 : ℤ) : ℝ) ≤ (ratOf x : ℝ) := by exact_mod_cast h
  have hpow := zpow_le_rpow hreal
  have hinf : isInf 0x7F800000 = true := by decide
  refine ⟨by decide, by decide, fun _ => .inr (lt_magOf_of_isInf hinf).le, fun _ => rfl, fun _ => ?_,
    fun _ hi => absurd hi (by rw [hinf]; decide), fun hlt => absurd hlt (by linarith), fun k hk => ?_⟩
  · norm_num at hpow ⊢
    linarith
  · rw [hk] at h
    have hk128 : (128 : ℤ) ≤ k := by exact_mod_cast h
    exact ⟨fun hlt => by omega, fun _ hlt => by omega⟩

/-- Zero stands for a power far below the least number, with NJ = 1 for one below 2^-126, and for an integral exponent
below -149. -/
theorem powBound_zero (h : ratOf x < -160 ∨ nj = true ∧ ratOf x < -126 ∨ ∃ k : ℤ, k < -149 ∧ ratOf x = k) :
    PowBound nj x 0 := by
  have hlt : ratOf x < -126 := by
    rcases h with h | ⟨-, h⟩ | ⟨k, hk, h⟩
    · linarith
    · exact h
    · have : (k : ℚ) < (-149 : ℤ) := by exact_mod_cast hk
      rw [h]
      push_cast at this
      linarith
  have hzero : (ratOf 0 : ℝ) = 0 := by
    rw [ratOf_of_pos (by decide), (magOf_eq_zero_iff 0).2 (by decide)]
    simp
  refine ⟨by decide, by decide, fun _ => .inl rfl, fun hge => absurd hge (by linarith), fun hi => absurd hi (by decide),
    fun hge => absurd hge (by linarith), fun _ => ?_, fun k hk => ⟨fun _ => rfl, fun hge _ hnj => ?_⟩⟩
  · split
    · rfl
    · next hnj =>
      refine ⟨by rw [(magOf_eq_zero_iff 0).2 (by decide)]; exact Nat.zero_le _, ?_⟩
      have hsmall : (2 : ℝ) ^ (ratOf x : ℝ) ≤ 1 / 2 ^ 150 := by
        have hle : (ratOf x : ℝ) ≤ ((-150 : ℤ) : ℝ) := by
          rcases h with h | ⟨h, -⟩ | ⟨k, hk, h⟩
          · have : (ratOf x : ℝ) < ((-160 : ℤ) : ℝ) := by exact_mod_cast h
            push_cast at this ⊢
            linarith
          · exact absurd h hnj
          · rw [h]
            exact_mod_cast (by omega : k ≤ -150)
        exact (rpow_le_zpow hle).trans_eq (by norm_num)
      have hpos : (0 : ℝ) < 2 ^ (ratOf x : ℝ) := by positivity
      rw [hzero, zero_sub, abs_neg, abs_of_pos hpos]
      linarith
  · exfalso
    rw [hk] at h hlt
    have hlt' : k < -126 := by exact_mod_cast hlt
    rcases h with h | ⟨h, -⟩ | ⟨j, hj, h⟩
    · have : k < -160 := by exact_mod_cast h
      omega
    · rw [h] at hnj
      rcases hnj with hnj | hnj
      · cases hnj
      · omega
    · have : k = j := by exact_mod_cast h
      omega

/-- An integral exponent in the range of the format gives its power. -/
theorem powBound_exact {k : ℤ} (hk : ratOf x = k) (hlow : -149 ≤ k) (hhigh : k < 128) (hnj : nj = true → -126 ≤ k)
    (hs : signOf e = false) (hn : isNaN e = false) (hi : isInf e = false) (he : magOf e = 2 ^ (k + 149).toNat) :
    PowBound nj x e := by
  have hne : e ≠ 0 := by
    rw [Ne, eq_zero_iff_of_pos hs, he]
    positivity
  have hvalQ : ratOf e = 2 ^ k := by
    have hexp : ((k + 149).toNat : ℤ) = k + 149 := Int.toNat_of_nonneg (by omega)
    have hpow : ((2 ^ (k + 149).toNat : ℕ) : ℚ) = 2 ^ k * 2 ^ 149 := by
      rw [Nat.cast_pow, Nat.cast_ofNat, ← zpow_natCast, hexp, zpow_add₀ (by norm_num)]
      rfl
    rw [ratOf, valueOf_of_signOf hs, he, Int.cast_natCast, hpow]
    field_simp
  have herr : |(ratOf e : ℝ) - 2 ^ (ratOf x : ℝ)| = 0 := by
    rw [hk, hvalQ, Rat.cast_intCast, Real.rpow_intCast]
    push_cast
    simp
  have hpos : (0 : ℝ) < 2 ^ (ratOf x : ℝ) := by positivity
  refine ⟨hs, hn, fun h => .inr ?_, fun hge => ?_, fun h => absurd h (by simp [hi]), fun _ _ => ?_, fun hlt => ?_,
    fun j hj => ?_⟩
  · rw [he]
    have := hnj h
    exact Nat.pow_le_pow_right (by decide) (by omega)
  · rw [hk] at hge
    have : (128 : ℤ) ≤ k := by exact_mod_cast hge
    omega
  · rw [if_neg fun h => hne h.2, herr]
    positivity
  · rw [hk] at hlt
    have hlt' : k < -126 := by exact_mod_cast hlt
    rw [if_neg fun h => by have := hnj h; omega, herr, he]
    exact ⟨Nat.pow_le_pow_right (by decide) (by omega), by positivity⟩
  · obtain rfl : k = j := by exact_mod_cast hk.symm.trans hj
    exact ⟨fun h => by omega, fun _ _ _ => hvalQ⟩

/-- Any other exponent below 128: an estimate of the power. -/
theorem powBound_estimate (hhigh : ratOf x < 128) (hnj : nj = true → -126 ≤ ratOf x) (hk : ∀ k : ℤ, ratOf x ≠ k)
    (h : PowEstimate nj (decide (ratOf x < -126)) (2 ^ (ratOf x : ℝ)) e) : PowBound nj x e := by
  obtain ⟨hs, hn, hinf, hnormal, htiny⟩ := h
  have hpos : (0 : ℝ) < 2 ^ (ratOf x : ℝ) := by positivity
  refine ⟨hs, hn, fun h => ?_, fun hge => absurd hge (by linarith), hinf, fun hge hi => ?_, fun hlt => ?_,
    fun k hk' => absurd hk' (hk k)⟩
  · cases hi : isInf e with
    | true => exact .inr (lt_magOf_of_isInf hi).le
    | false =>
      have := hnormal hi (decide_eq_false (not_lt.2 (hnj h)))
      split at this
      · next h0 => exact .inl ((eq_zero_iff_of_pos hs).2 h0.2)
      · exact .inr (this.1 h)
  · have := hnormal hi (decide_eq_false (not_lt.2 hge))
    simp only [eq_zero_iff_of_pos hs]
    split at this
    · next h0 => rwa [if_pos h0]
    · next h0 =>
      rw [if_neg h0]
      exact this.2
  · have hnj' : nj ≠ true := fun h => absurd (hnj h) (not_le.2 hlt)
    rw [if_neg hnj']
    refine htiny ?_ (decide_eq_true hlt)
    rw [Bool.eq_false_iff]
    intro hi
    have hbig := hinf hi
    have hreal : (ratOf x : ℝ) < ((-126 : ℤ) : ℝ) := by exact_mod_cast hlt
    have hsmall := rpow_lt_zpow hreal
    norm_num at hbig hsmall
    linarith

end

/-! ### The middle of the interval, rounded -/

/-- An error counted in units of 2^-149. -/
theorem abs_ratOf_sub_le {e : Word} (hs : signOf e = false) {p d : ℝ} (h : |(magOf e : ℝ) - 2 ^ 149 * p| ≤ 2 ^ 149 * d) :
    |(ratOf e : ℝ) - p| ≤ d := by
  rw [abs_ratOf_sub, valueOf_of_signOf hs, Int.cast_natCast, div_le_iff₀ (by positivity), mul_comm d]
  exact h

section
variable {lo sh : Nat} {p : ℝ}

/-- The integer that is rounded is within 2^-50 of 2^214 times the power. -/
theorem stickyQuot_power (hlo : 2 ^ 192 ≤ lo) (h1 : (lo : ℝ) * 2 ^ sh ≤ 2 ^ 203 * (2 ^ 149 * p))
    (h2 : 2 ^ 203 * (2 ^ 149 * p) ≤ ((lo : ℝ) + 2 ^ 11) * 2 ^ sh) :
    let q := stickyQuot ((lo + (lo + 2 ^ 11)) * 2 ^ sh) (2 * 2 ^ 203)
    (q : ℝ) ≤ 2 ^ 214 * p * (1 + 1 / 2 ^ 50) ∧ 2 ^ 214 * p * (1 - 1 / 2 ^ 50) ≤ q ∧ q ≠ 0 ∧
      (34 ≤ sh → 2 ^ 88 ≤ q) := by
  intro q
  obtain ⟨hup, hdown⟩ := stickyQuot_bounds ((lo + (lo + 2 ^ 11)) * 2 ^ sh) (den := 2 * 2 ^ 203) (by positivity)
  have hsum : ((lo : ℝ) + (lo + 2 ^ 11)) * 2 ^ sh = 2 * (lo * 2 ^ sh) + 2 ^ 11 * 2 ^ sh := by ring
  have hup' : (q : ℝ) * (2 * 2 ^ 203) < (lo + (lo + 2 ^ 11)) * 2 ^ sh * 2 ^ 65 + 2 * 2 ^ 203 := by exact_mod_cast hup
  have hdown' : ((lo : ℝ) + (lo + 2 ^ 11)) * 2 ^ sh * 2 ^ 65 < q * (2 * 2 ^ 203) + 2 * 2 ^ 203 := by exact_mod_cast hdown
  have hlarge : (2 ^ 192 : ℝ) * 2 ^ sh ≤ lo * 2 ^ sh := mul_le_mul_of_nonneg_right (by exact_mod_cast hlo) (by positivity)
  have hone : (1 : ℝ) ≤ 2 ^ sh := one_le_pow₀ (by norm_num)
  have hmin : 34 ≤ sh → (2 : ℝ) ^ 34 ≤ 2 ^ sh := fun h => pow_le_pow_right₀ (by norm_num) h
  rw [hsum] at hup' hdown'
  rw [add_mul] at h2
  generalize (lo : ℝ) * 2 ^ sh = b at *
  generalize (2 : ℝ) ^ sh = c at *
  have hq : (2 ^ 53 : ℝ) ≤ q := by linarith
  refine ⟨by linarith, by linarith, fun h0 => ?_, fun h => ?_⟩
  · rw [h0] at hq
    norm_num at hq
  · have hmin' := hmin h
    have hreal : (2 ^ 88 : ℝ) < q + 1 := by linarith
    exact Nat.lt_succ_iff.1 (by exact_mod_cast hreal)

/-- The middle of the interval, rounded, is an estimate. -/
theorem powEstimate_middle {nj tiny : Bool} (hlo : 2 ^ 192 ≤ lo) (h1 : (lo : ℝ) * 2 ^ sh ≤ 2 ^ 203 * (2 ^ 149 * p))
    (h2 : 2 ^ 203 * (2 ^ 149 * p) ≤ ((lo : ℝ) + 2 ^ 11) * 2 ^ sh) (htiny : tiny = true → p < 1 / 2 ^ 126)
    (hnormal : tiny = false → 34 ≤ sh) (hnj : nj = true → tiny = false) :
    PowEstimate nj tiny p (roundQuot nj false ((lo + (lo + 2 ^ 11)) * 2 ^ sh) (2 * 2 ^ 203)) := by
  obtain ⟨hupper, hlower, hq0, hlarge⟩ := stickyQuot_power hlo h1 h2
  rw [roundQuot_eq]
  generalize stickyQuot ((lo + (lo + 2 ^ 11)) * 2 ^ sh) (2 * 2 ^ 203) = q at *
  rcases Nat.lt_or_ge q (2 ^ 88) with hq | hq
  · have ht : tiny = true := by
      by_contra h
      have := hlarge (hnormal (Bool.eq_false_iff.2 h))
      omega
    obtain rfl : nj = false := Bool.eq_false_iff.2 fun h => by rw [hnj h] at ht; cases ht
    obtain ⟨-, hi, hsmall, hup, hdown⟩ := roundMag_214_tiny (neg := false) hq0 hq
    refine ⟨signOf_roundMag .., isNaN_roundMag hq0 (by decide) .., fun h => absurd h (by simp [hi]),
      fun _ h => absurd (ht.symm.trans h) (by decide), fun _ _ => ⟨hsmall, abs_ratOf_sub_le (signOf_roundMag ..) ?_⟩⟩
    generalize magOf (roundMag false false q 214) = n at *
    have hup' : 2 ^ 65 * (n : ℝ) ≤ q + 2 ^ 64 := by exact_mod_cast hup
    have hdown' : (q : ℝ) ≤ 2 ^ 65 * n + 2 ^ 64 := by exact_mod_cast hdown
    rw [abs_le]
    constructor <;> linarith
  · obtain ⟨hsame, hover, hrel⟩ := roundMag_214 (nj := nj) (neg := false) hq
    rw [hsame]
    have herr : isInf (roundMag false false q 214) = false →
        |(ratOf (roundMag false false q 214) : ℝ) - p| ≤ p / 16 := fun hi => by
      obtain ⟨hup, hdown, -⟩ := hrel hi
      refine abs_ratOf_sub_le (signOf_roundMag ..) ?_
      generalize magOf (roundMag false false q 214) = n at *
      have hup' : 2 ^ 89 * (n : ℝ) ≤ (2 ^ 24 + 1) * q := by exact_mod_cast hup
      have hconst : ((2 ^ 24 - 1 : ℕ) : ℝ) = 2 ^ 24 - 1 := by norm_num
      have hdown' : ((2 ^ 24 - 1 : ℕ) : ℝ) * q ≤ 2 ^ 89 * n := by exact_mod_cast hdown
      rw [hconst] at hdown'
      rw [abs_le]
      constructor <;> linarith
    refine ⟨signOf_roundMag .., isNaN_roundMag hq0 (by decide) .., fun hi => ?_, fun hi _ => ?_, fun hi ht => ⟨?_, ?_⟩⟩
    · have hbig := hover.1 hi
      rw [halfway_eq] at hbig
      have hbig' : ((2 * 2 ^ 24 - 1 : ℕ) : ℝ) * 2 ^ 252 * 2 ^ 65 ≤ q := by exact_mod_cast hbig
      have hconst : ((2 * 2 ^ 24 - 1 : ℕ) : ℝ) = 2 * 2 ^ 24 - 1 := by norm_num
      rw [hconst] at hbig'
      linarith
    · have h23 := (hrel hi).2.2
      rw [if_neg fun h => by omega]
      exact ⟨fun _ => h23, herr hi⟩
    · have hp := htiny ht
      obtain ⟨hup, -, -⟩ := hrel hi
      generalize magOf (roundMag false false q 214) = n at *
      have hup' : 2 ^ 89 * (n : ℝ) ≤ (2 ^ 24 + 1) * q := by exact_mod_cast hup
      have hreal : (n : ℝ) < 2 ^ 23 + 1 := by linarith
      exact Nat.lt_succ_iff.1 (by exact_mod_cast hreal)
    · have : (0 : ℝ) < 1 / 2 ^ 150 := by positivity
      linarith [herr hi]

end

/-! ### The power of a finite element -/

theorem ratOf_eq_add (x : Word) :
    (ratOf x : ℝ) = ((valueOf x / 2 ^ 149 : ℤ) : ℝ) + ((valueOf x % 2 ^ 149).toNat : ℝ) / 2 ^ 149 := by
  have hmod : ((valueOf x % 2 ^ 149).toNat : ℤ) = valueOf x % 2 ^ 149 :=
    Int.toNat_of_nonneg (Int.emod_nonneg _ (by decide))
  have hdiv : 2 ^ 149 * (valueOf x / 2 ^ 149) + ((valueOf x % 2 ^ 149).toNat : ℤ) = valueOf x := by
    rw [hmod, Int.mul_ediv_add_emod]
  have hsplit : (valueOf x : ℝ) = 2 ^ 149 * ((valueOf x / 2 ^ 149 : ℤ) : ℝ) + ((valueOf x % 2 ^ 149).toNat : ℝ) := by
    generalize (valueOf x % 2 ^ 149).toNat = g at *
    generalize valueOf x / 2 ^ 149 = w at *
    exact_mod_cast hdiv.symm
  simp only [ratOf, Rat.cast_div, Rat.cast_intCast, Rat.cast_pow, Rat.cast_ofNat]
  rw [hsplit]
  field_simp

theorem intCast_le_ratOf_iff (x : Word) (k : ℤ) : (k : ℚ) ≤ ratOf x ↔ k ≤ valueOf x / 2 ^ 149 := by
  rw [ratOf, le_div_iff₀ (by positivity), Int.le_ediv_iff_mul_le (by decide)]
  exact_mod_cast Iff.rfl

theorem ratOf_lt_intCast_iff (x : Word) (k : ℤ) : ratOf x < k ↔ valueOf x / 2 ^ 149 < k := by
  rw [← not_le, intCast_le_ratOf_iff, not_le]

theorem ratOf_eq_intCast_iff (x : Word) (k : ℤ) :
    ratOf x = k ↔ (valueOf x % 2 ^ 149).toNat = 0 ∧ valueOf x / 2 ^ 149 = k := by
  have hcast : ratOf x = k ↔ valueOf x = k * 2 ^ 149 := by
    rw [ratOf, div_eq_iff (by positivity)]
    exact_mod_cast Iff.rfl
  rw [hcast]
  omega

/-- The interval of `powNum` holds the power. -/
theorem power_interval {x : Word} (hlow : -160 ≤ valueOf x / 2 ^ 149) :
    let lo := (powBounds (valueOf x % 2 ^ 149).toNat).1
    let sh := (valueOf x / 2 ^ 149 + 160).toNat
    2 ^ 192 ≤ lo ∧ (lo : ℝ) * 2 ^ sh ≤ 2 ^ 203 * (2 ^ 149 * 2 ^ (ratOf x : ℝ)) ∧
      2 ^ 203 * (2 ^ 149 * 2 ^ (ratOf x : ℝ)) ≤ ((lo : ℝ) + 2 ^ 11) * 2 ^ sh := by
  intro lo sh
  have hg : (valueOf x % 2 ^ 149).toNat < 2 ^ 149 := by omega
  obtain ⟨hlo, h1, h2⟩ := powBounds_spec hg
  have hhi : (((powBounds (valueOf x % 2 ^ 149).toNat).2 : ℕ) : ℝ) = (lo : ℝ) + 2 ^ 11 := by
    simp only [powBounds, lo, Nat.cast_add, Nat.cast_pow, Nat.cast_ofNat]
  rw [hhi] at h2
  have hsh : (2 : ℝ) ^ sh = 2 ^ (valueOf x / 2 ^ 149) * 2 ^ 160 := by
    have hexp : (sh : ℤ) = valueOf x / 2 ^ 149 + 160 := Int.toNat_of_nonneg (by omega)
    rw [← zpow_natCast, hexp, zpow_add₀ (by norm_num)]
    rfl
  have hpower : 2 ^ 203 * (2 ^ 149 * (2 : ℝ) ^ (ratOf x : ℝ)) =
      2 ^ 192 * 2 ^ (((valueOf x % 2 ^ 149).toNat : ℝ) / 2 ^ 149) * 2 ^ sh := by
    rw [ratOf_eq_add, Real.rpow_add (by norm_num), Real.rpow_intCast, hsh]
    ring
  rw [hpower]
  exact ⟨hlo, mul_le_mul_of_nonneg_right h1 (by positivity), mul_le_mul_of_nonneg_right h2 (by positivity)⟩

/-- For an integral exponent in the range of the format the power is exact. -/
theorem powBound_two_pow {nj : Bool} {x : Word} {k : ℤ} (hk : ratOf x = k) (hlow : -149 ≤ k) (hhigh : k < 128)
    (hnj : nj = true → -126 ≤ k) : PowBound nj x (roundMag nj false (2 ^ (k + 160).toNat) 160) := by
  have hmax : 1 * 2 ^ (k + 160).toNat < (2 ^ 277 - 2 ^ 252) * 2 ^ (160 - 149) := by
    rw [halfway_eq, Nat.one_mul]
    calc 2 ^ (k + 160).toNat ≤ 2 ^ (252 + 24 + 11) := pow_le_pow_right₀ (by decide) (by omega)
      _ = 2 ^ 24 * 2 ^ 252 * 2 ^ 11 := by rw [pow_add, pow_add, mul_comm (2 ^ 252)]
      _ < (2 * 2 ^ 24 - 1) * 2 ^ 252 * 2 ^ (160 - 149) := by decide
  have hsame : roundMag nj false (2 ^ (k + 160).toNat) 160 = roundMag false false (2 ^ (k + 160).toNat) 160 := by
    cases nj with
    | false => rfl
    | true =>
      have hk126 := hnj rfl
      have hbig : 2 ^ 34 ≤ 2 ^ (k + 160).toNat := Nat.pow_le_pow_right (by decide) (by omega)
      rw [roundMag_true_eq (by positivity) (by decide), if_neg (by omega)]
  obtain ⟨hfin, hmag⟩ := roundMag_exact (scale := 160) (by decide) (by decide) (by decide) (by omega) hmax false
  rw [Nat.one_mul] at hfin hmag
  rw [hsame]
  refine powBound_exact hk hlow hhigh hnj (signOf_roundMag ..) (isNaN_roundMag (by positivity) (by decide) ..) hfin ?_
  refine Nat.eq_of_mul_eq_mul_right (show 0 < 2 ^ 11 by decide) (hmag.trans ?_)
  rw [← pow_add]
  congr 1
  omega

/-- Every result of `powNum` is permitted. -/
theorem powBound_powNum (nj : Bool) (draw x : Word) : PowBound nj x (powNum nj draw x) := by
  have hle := intCast_le_ratOf_iff x
  have hlt := ratOf_lt_intCast_iff x
  have heq := ratOf_eq_intCast_iff x
  have hint := @power_interval x
  simp only [powNum]
  split
  · next h128 => exact powBound_overflow ((hle 128).2 h128)
  next h128 =>
  split
  · next hzero =>
    refine powBound_zero ?_
    rcases hzero with h | ⟨hnj, h⟩ | ⟨hpart, h⟩
    · exact .inl ((hlt (-160)).2 h)
    · exact .inr (.inl ⟨hnj, (hlt (-126)).2 h⟩)
    · exact .inr (.inr ⟨_, h, (heq _).2 ⟨hpart, rfl⟩⟩)
  next hzero =>
  have hlow : -160 ≤ valueOf x / 2 ^ 149 := by omega
  have hnj126 : nj = true → -126 ≤ valueOf x / 2 ^ 149 := fun h => by
    by_contra hc
    exact hzero (.inr (.inl ⟨h, by omega⟩))
  split
  · next hpart =>
    have hlow149 : -149 ≤ valueOf x / 2 ^ 149 := by
      by_contra hc
      exact hzero (.inr (.inr ⟨hpart, by omega⟩))
    refine powBound_two_pow ((heq _).2 ⟨hpart, rfl⟩) hlow149 (by omega) hnj126
  · next hpart =>
    obtain ⟨hlo, h1, h2⟩ := hint hlow
    have htiny : decide (valueOf x / 2 ^ 149 < -126) = decide (ratOf x < -126) :=
      decide_eq_decide.2 ((hlt (-126)).symm.trans (by norm_num))
    refine powBound_estimate ((hlt 128).2 (by omega)) (fun h => (hle (-126)).2 (hnj126 h))
      (fun k hk => hpart ((heq k).1 hk).1) ?_
    rw [← htiny, estimate]
    split
    · next hok =>
      refine powOk_bound hok (by positivity) ?_ ?_
      · simpa only [Nat.cast_mul, Nat.cast_pow, Nat.cast_ofNat] using h1
      · simpa only [powBounds, Nat.cast_mul, Nat.cast_add, Nat.cast_pow, Nat.cast_ofNat] using h2
    · refine powEstimate_middle hlo h1 h2 (fun ht => ?_) (fun ht => ?_) (fun h => ?_)
      · have hreal : (ratOf x : ℝ) < ((-126 : ℤ) : ℝ) := by exact_mod_cast (hlt (-126)).2 (of_decide_eq_true ht)
        have hpow := rpow_lt_zpow hreal
        rwa [zpow_neg, ← one_div] at hpow
      · have := of_decide_eq_false ht
        omega
      · exact decide_eq_false (not_lt.2 (hnj126 h))

/-! ### All four estimates -/

section
variable {nj : Bool} {y : Word}

theorem estRecip_of_finite (draw : Word) (hn : isNaN (flushIn nj y) = false) (hi : isInf (flushIn nj y) = false)
    (hz : isZero (flushIn nj y) = false) :
    estRecip nj draw y = estimate (recipOk nj (flushIn nj y))
      (roundQuot nj (signOf (flushIn nj y)) (2 ^ 298) (magOf (flushIn nj y))) draw := by
  simp only [estRecip, hn, hi, hz, Bool.false_eq_true, if_false]

theorem estRsqrt_of_finite (draw : Word) (hn : isNaN (flushIn nj y) = false) (hi : isInf (flushIn nj y) = false)
    (hz : isZero (flushIn nj y) = false) (hs : signOf (flushIn nj y) = false) :
    estRsqrt nj draw y = estimate (rsqrtOk (flushIn nj y)) (rsqrtNear (magOf (flushIn nj y))) draw := by
  simp only [estRsqrt, hn, hi, hz, hs, Bool.false_eq_true, if_false]

theorem estExp2_of_finite (draw : Word) (hn : isNaN (flushIn nj y) = false) (hi : isInf (flushIn nj y) = false)
    (hz : isZero (flushIn nj y) = false) : estExp2 nj draw y = powNum nj draw (flushIn nj y) := by
  simp only [estExp2, hn, hi, hz, Bool.false_eq_true, if_false]

end

/-- Settles O57: an admitted candidate is within the bounds because the test says so, the fallback because it is rounded from
an approximation that is far closer than they ask. -/
theorem estimatesWithinBounds : Obligations.EstimatesWithinBounds := by
  refine fun nj draw y hn hi hz => ⟨?_, fun hs => ⟨?_, logBound_estLog2 draw hn hi hz hs⟩, ?_⟩
  · rw [estRecip_of_finite draw hn hi hz, estimate]
    split
    · next hok => exact recipBound_of_recipOk (magOf_pos hz) hok
    · exact recipBound_of_roundQuot (magOf_pos hz) (magOf_lt_of_finite hn hi)
  · rw [estRsqrt_of_finite draw hn hi hz hs, estimate]
    split
    · next hok => exact rsqrtBound_of_rsqrtOk hok
    · exact rsqrtBound_of_rsqrtNear (magOf_pos hz) (magOf_lt_of_finite hn hi)
  · rw [estExp2_of_finite draw hn hi hz]
    exact powBound_powNum nj draw _

end Sys2Proof.Machine
end

section
/-! Element and whole-vector loads and stores: what such an instruction does once its translation succeeds, where the
bytes of an element stand in its vector, and that a store leaves the way to memory as it was. -/

namespace Sys2Proof.Machine

open Sys2Proof

/-! ### Accesses whose translation succeeds -/

section
variable {i : Instr} {s u : State} {ea real : DWord} {kind : AccessKind} {ctx : AccessCtx} {m : MemAttr} {ext : Bool}
  {go : DWord → Result}

theorem requireSpv_access_ok (hs : s.spv = true) (ht : s.translate ea kind ctx = .ok real m) :
    requireSpv s (access s ea kind ctx ext u go) = go real := by
  rw [requireSpv, if_pos hs, access_ok ht]

/-- In supervisor state, with category E.PD, an external-PID access goes on like any other (rules R302, R461). -/
theorem externalPid_access_ok {name : String} (hepd : s.cfg.hasEPD = true) (hpr : s.prBit = false) (hs : s.spv = true)
    (ht : s.translate ea kind ctx = .ok real m) :
    externalPid name s (access s ea kind ctx ext u go) = go real := by
  rw [externalPid, if_pos hepd, requireSupervisor, hpr, requireSpv_access_ok hs ht]
  rfl

/-- A load ends with `VR[vD] <- w`. -/
theorem completes_of_complete {vd : Reg} {w : Vec} {E : State → Prop} (h : exec i s = complete s vd w)
    (hE : ∀ t : State, t.vr vd = w → E t) : Completes i s [.vr vd] E := by
  obtain ⟨t, ht, hpc, hv, hf⟩ := complete_spec s vd w
  exact ⟨t, h.trans ht, hpc, hE t hv, hf⟩

/-- The same where free values were drawn for the undefined part of `w`. -/
theorem completes_of_complete_drawn {n : Nat} {vd : Reg} {w : Vec} {E : State → Prop}
    (h : exec i s = complete (s.drawn n) vd w) (hE : ∀ t : State, t.vr vd = w → E t) :
    Completes i s [.vr vd, .draws] E := by
  obtain ⟨t, ht, hpc, ⟨hv, -⟩, hf⟩ := complete_drawn_spec s n vd w
  exact ⟨t, h.trans ht, hpc, hE t hv, hf⟩

/-- A store ends with the bytes written and the pc moved on. -/
theorem completes_of_writeBytes {n : Nat} {f : Nat → Byte} (hm : Memory.wf s.mem) (hn : n ≤ 16)
    (h : exec i s = .next (s.writeBytes real n f).advance) :
    Completes i s [.bytes real n] fun t => ∀ k < n, t.byteAt real k = f k :=
  ⟨_, h, writeBytes_spec s real n f hm hn⟩

end

/-! ### The bytes of an element -/

/-- The `n` bytes of `v` from byte `e` on are `f 0 … f (n - 1)`, the others those of `w`. -/
def Placed (n e : Nat) (f : Nat → Byte) (w v : Vec) : Prop :=
  ∀ j < 16, byte v j = if e ≤ j ∧ j < e + n then f (j - e) else byte w j

section
variable {n e : Nat} {f : Nat → Byte} {w v : Vec}

theorem placed_bytes (h : Placed n e f w v) (he : e + n ≤ 16) {k : Nat} (hk : k < n) : byte v (e + k) = f k := by
  rw [h (e + k) (by omega), if_pos (by omega), Nat.add_sub_cancel_left]

theorem placed_zero (h : Placed n e f 0 v) {j : Nat} (hj : j < 16) :
    byte v j = if e ≤ j ∧ j < e + n then f (j - e) else 0 := by
  rw [h j hj, byte, elem_zero]

end

section
variable (s : State) (real : DWord) (w : Vec) {i e : Nat}

/-- Byte `b` of a half word in memory is at offset `b` (rule R52). -/
theorem readHalf_byte {b : Nat} (hb : b < 2) : (s.readHalf real).extractLsb' (8 - 8 * b) 8 = s.byteAt real b := by
  interval_cases b
  · exact BitVec.extractLsb'_append_eq_left
  · exact BitVec.extractLsb'_append_eq_right

/-- Byte `b` of a word in memory is at offset `b` (rule R52). -/
theorem readWord_byte {b : Nat} (hb : b < 4) : (s.readWord real).extractLsb' (24 - 8 * b) 8 = s.byteAt real b := by
  interval_cases b
  · rw [State.readWord, BitVec.extractLsb'_append_eq_of_le (by decide), BitVec.extractLsb'_append_eq_of_le (by decide)]
    exact BitVec.extractLsb'_append_eq_left
  · rw [State.readWord, BitVec.extractLsb'_append_eq_of_le (by decide), BitVec.extractLsb'_append_eq_of_le (by decide)]
    exact BitVec.extractLsb'_append_eq_right
  · rw [State.readWord, BitVec.extractLsb'_append_eq_of_le (by decide)]
    exact BitVec.extractLsb'_append_eq_right
  · exact BitVec.extractLsb'_append_eq_right

/-! One lemma for each element size: writing element `i` places its bytes from byte `e` on (rules R11, R290). -/

theorem placed_setByte (he : i * 1 = e) : Placed 1 e (s.byteAt real) w (setByte w i (s.byteAt real 0)) := by
  intro j hj
  rw [byte_setByte w i j _ hj]
  by_cases h : j = i
  · rw [if_pos h, if_pos (by omega), show j - e = 0 by omega]
  · rw [if_neg h, if_neg (by omega)]

theorem placed_setHalf (he : i * 2 = e) : Placed 2 e (s.byteAt real) w (setHalf w i (s.readHalf real)) := by
  intro j hj
  rw [byte_eq_half _ j hj, half_setHalf w i _ _ (by omega)]
  by_cases h : j / 2 = i
  · rw [if_pos h, if_pos (by omega), readHalf_byte s real (by omega), show j % 2 = j - e by omega]
  · rw [if_neg h, if_neg (by omega), byte_eq_half w j hj]

theorem placed_setWord (he : i * 4 = e) : Placed 4 e (s.byteAt real) w (setWord w i (s.readWord real)) := by
  intro j hj
  rw [byte_eq_word _ j hj, word_setWord w i _ _ (by omega)]
  by_cases h : j / 4 = i
  · rw [if_pos h, if_pos (by omega), readWord_byte s real (by omega), show j % 4 = j - e by omega]
  · rw [if_neg h, if_neg (by omega), byte_eq_word w j hj]

end

/-! ### The element an address selects (rules R56, R290) -/

theorem low4_alignDown_one (a : DWord) : low4 (alignDown 1 a) = low4 a / 2 * 2 := by
  rw [low4_eq, low4_eq, alignDown_toNat]
  omega

theorem low4_alignDown_two (a : DWord) : low4 (alignDown 2 a) = low4 a / 4 * 4 := by
  rw [low4_eq, low4_eq, alignDown_toNat]
  omega

/-! ### Element loads and stores -/

section
variable {i : Instr} {s : State} {vd : Reg} {a real : DWord} {m : MemAttr} {put : DWord → Vec} {n e : Nat}

/-- An element load that leaves the rest of vD undefined (rules R292 to R294). -/
theorem completes_loadElem_undefined {w : Vec} (h : exec i s = loadElem s vd a (s.drawn 1) put) (hs : s.spv = true)
    (ht : s.translate a .load s.normalCtx = .ok real m) (hp : Placed n e (s.byteAt real) w (put real))
    (he : e + n ≤ 16) :
    Completes i s [.vr vd, .draws] fun t => ∀ k < n, byte (t.vr vd) (e + k) = s.byteAt real k :=
  completes_of_complete_drawn (h.trans (requireSpv_access_ok hs ht)) fun _ hv _ hk => hv ▸ placed_bytes hp he hk

/-- An element load that zeroes the rest of vD (rules R298 to R300). -/
theorem completes_loadElem_zero (h : exec i s = loadElem s vd a s put) (hs : s.spv = true)
    (ht : s.translate a .load s.normalCtx = .ok real m) (hp : Placed n e (s.byteAt real) 0 (put real)) :
    Completes i s [.vr vd] fun t =>
      ∀ j < 16, byte (t.vr vd) j = if e ≤ j ∧ j < e + n then s.byteAt real (j - e) else 0 :=
  completes_of_complete (h.trans (requireSpv_access_ok hs ht)) fun _ hv _ hj => hv ▸ placed_zero hp hj

/-- An element store of the bytes of `v` from byte `eb` on. -/
theorem completes_storeElem {k eb : Nat} {v : Vec} (h : exec i s = storeElem s a k v eb) (hs : s.spv = true)
    (hm : Memory.wf s.mem) (ht : s.translate a .store s.normalCtx = .ok real m) (hk : 2 ^ k ≤ 16) (he : eb = e) :
    Completes i s [.bytes real (2 ^ k)] fun t => ∀ j < 2 ^ k, t.byteAt real j = byte v (e + j) :=
  he ▸ completes_of_writeBytes hm hk (h.trans (requireSpv_access_ok hs ht))

end

/-- Settles O43: each load is `loadElem`, and its `put` places the bytes read at the element's place. -/
theorem elementLoadResults : Obligations.ElementLoadResults := by
  intro s v ra rb real m hs
  have hb := low4_lt (s.ea ra rb)
  have hh := low4_alignDown_one (s.ea ra rb)
  have hw := low4_alignDown_two (s.ea ra rb)
  refine ⟨fun ht => ?_, fun ht => ?_, fun ht => ?_, fun ht => ?_, fun ht => ?_, fun ht => ?_⟩
  · exact completes_loadElem_undefined rfl hs ht (placed_setByte s real _ (Nat.mul_one _)) hb
  · exact completes_loadElem_undefined rfl hs ht (placed_setHalf s real _ (by omega)) (by omega)
  · exact completes_loadElem_undefined rfl hs ht (placed_setWord s real _ (by omega)) (by omega)
  · exact completes_loadElem_zero rfl hs ht (placed_setByte s real _ rfl)
  · exact completes_loadElem_zero rfl hs ht (placed_setHalf s real _ rfl)
  · exact completes_loadElem_zero rfl hs ht (placed_setWord s real _ rfl)

/-- Settles O44: each store is `storeElem`, at the element that the address or GPR[rB] selects. -/
theorem elementStoreResults : Obligations.ElementStoreResults := by
  intro s v ra rb real m hs hm
  refine ⟨fun ht => ?_, fun ht => ?_, fun ht => ?_, fun ht => ?_, fun ht => ?_, fun ht => ?_⟩
  · exact completes_storeElem (k := 0) rfl hs hm ht (by decide) rfl
  · exact completes_storeElem (k := 1) rfl hs hm ht (by decide) rfl
  · exact completes_storeElem (k := 2) rfl hs hm ht (by decide) rfl
  · exact completes_storeElem (k := 0) rfl hs hm ht (by decide) (Nat.mul_comm _ _)
  · exact completes_storeElem (k := 1) rfl hs hm ht (by decide) (Nat.mul_comm _ _)
  · exact completes_storeElem (k := 2) rfl hs hm ht (by decide) (Nat.mul_comm _ _)

/-! ### Whole-vector loads and stores -/

section
variable {i : Instr} {s : State} {v : Reg} {real : DWord}

/-- A quad word in vD: byte j of the vector is byte j of memory (rule R52). -/
theorem completes_readQuad (h : exec i s = complete s v (s.readQuad real)) :
    Completes i s [.vr v] fun t => ∀ j < 16, byte (t.vr v) j = s.byteAt real j :=
  completes_of_complete h fun _ hv j hj => hv ▸ byte_ofBytes (s.byteAt real) j hj

/-- What holds of an instruction and of its l form. -/
theorem forall_mem_lForm {P : Instr → Prop} {j : Instr} (hi : P i) (hj : P j) : ∀ x ∈ [i, j], P x :=
  List.forall_mem_cons.2 ⟨hi, List.forall_mem_singleton.2 hj⟩

end

/-- Settles O45: the l forms and, past their tests, the external-PID forms are the same load of a quad word. -/
theorem vectorLoadResults : Obligations.VectorLoadResults := by
  refine fun s v ra rb real m hs => ⟨fun ht => ?_, fun hepd hpr ht => ?_⟩
  · have h : requireSpv s (loadQuad s v ra rb s.normalCtx false) = complete s v (s.readQuad real) :=
      requireSpv_access_ok hs ht
    exact forall_mem_lForm (completes_readQuad h) (completes_readQuad h)
  · have h (name : String) : externalPid name s (loadQuad s v ra rb (s.externalCtx s.eplc) true) =
        complete s v (s.readQuad real) := externalPid_access_ok hepd hpr hs ht
    exact forall_mem_lForm (completes_readQuad (h _)) (completes_readQuad (h _))

/-- Settles O46: the l forms and, past their tests, the external-PID forms are the same store of a quad word. -/
theorem vectorStoreResults : Obligations.VectorStoreResults := by
  refine fun s v ra rb real m hs hm => ⟨fun ht => ?_, fun hepd hpr ht => ?_⟩
  · have h : requireSpv s (storeQuad s v ra rb s.normalCtx false) =
        .next (s.writeBytes real 16 (byte (s.vr v))).advance := requireSpv_access_ok hs ht
    exact forall_mem_lForm (completes_of_writeBytes hm le_rfl h) (completes_of_writeBytes hm le_rfl h)
  · have h (name : String) : externalPid name s (storeQuad s v ra rb (s.externalCtx s.epsc) true) =
        .next (s.writeBytes real 16 (byte (s.vr v))).advance := externalPid_access_ok hepd hpr hs ht
    exact forall_mem_lForm (completes_of_writeBytes hm le_rfl (h _)) (completes_of_writeBytes hm le_rfl (h _))

/-! ### A load after a store -/

section
variable {s t : State}

theorem ea_congr (hg : ∀ r, t.gpr r = s.gpr r) (hc : t.cfg = s.cfg) (hm : t.mode64 = s.mode64) (ra rb : Reg) :
    t.ea ra rb = s.ea ra rb := by
  simp only [State.ea, State.gprOrZero, hg, modeAddr_congr hc hm]

theorem translate_congr (hx : t.xlat = s.xlat) (hc : t.cfg = s.cfg) (ea : DWord) (kind : AccessKind) (ctx : AccessCtx) :
    t.translate ea kind ctx = s.translate ea kind ctx := by
  simp only [State.translate, hx, hc]

theorem normalCtx_congr (hmsr : t.msr = s.msr) (hp : t.pid = s.pid) (hl : t.lpidr = s.lpidr) (hc : t.cfg = s.cfg) :
    t.normalCtx = s.normalCtx := by
  simp only [State.normalCtx, State.prBit, State.dsBit, State.gsBit, hmsr, hp, hl, hc]

/-- A store changes neither MSR[SPV], nor an effective address, nor its translation. -/
theorem access_of_frame_bytes {a : DWord} {n : Nat} (h : Frame [.bytes a n] s t) (ra rb : Reg) :
    t.spv = s.spv ∧ t.ea ra rb = s.ea ra rb ∧
      ∀ ea kind, t.translate ea kind t.normalCtx = s.translate ea kind s.normalCtx := by
  obtain ⟨hmode, hc, hx⟩ := h.platform
  obtain ⟨-, -, hpid, hlpidr⟩ := h.contexts
  have hmsr : t.msr = s.msr := h.msr (by simp)
  refine ⟨by simp only [State.spv, hmsr], ea_congr (fun r => h.gprs r (by simp)) hc hmode ra rb, fun ea kind => ?_⟩
  rw [normalCtx_congr hmsr hpid hlpidr hc, translate_congr hx hc]

end

/-- Settles O60: `stvx` leaves the bytes of vS at the real address and the translation as it was; `lvx` reads them. -/
theorem storeThenLoadReturnsVector : Obligations.StoreThenLoadReturnsVector := by
  intro s vs vd ra rb real m1 m2 hs hm hst hld
  obtain ⟨t, ht, -, hstored, hf⟩ := (vectorStoreResults s vs ra rb real m1 hs hm).1 hst _ List.mem_cons_self
  obtain ⟨hspv, hea, hx⟩ := access_of_frame_bytes hf ra rb
  have hld' : t.translate (alignDown 4 (t.ea ra rb)) .load t.normalCtx = .ok real m2 := by rw [hea, hx, hld]
  obtain ⟨u, hu, -, hloaded, -⟩ :=
    (vectorLoadResults t vd ra rb real m2 (hspv.trans hs)).1 hld' _ List.mem_cons_self
  refine ⟨t, u, ht, hu, vec_ext 8 (by decide) 16 rfl _ _ fun j hj => ?_⟩
  exact (hloaded j hj).trans (hstored j hj)

end Sys2Proof.Machine
end

section
/-! Partial-vector loads and stores, and the instructions that only compute from an address: what each shared operation
does once no interrupt is due, the bytes that it loads or stores, and the vectors made from the low four bits of EA. -/

namespace Sys2Proof.Machine

open Sys2Proof

/-! ### Accesses with the alignment test (rules R325, R326, R455) -/

section
variable {s u : State} {v ra rb : Reg} {real : DWord} {m : MemAttr}

/-- The alignment test stands after the translation: where it answers that no interrupt is due, the access goes on. -/
theorem requireSpv_access_orAlignment_ok {a ea : DWord} {kind : AccessKind} {ctx : AccessCtx} {ext : Bool}
    {go : DWord → Result} (hs : s.spv = true) (hd : s.alignmentDue ea kind = false)
    (ht : s.translate a kind ctx = .ok real m) :
    requireSpv s (access s a kind ctx ext u fun x => orAlignment s ea kind (go x)) = go real :=
  (requireSpv_access_ok hs ht).trans (orAlignment_not_due hd _)

/-! One equation for each shared operation: what it does where no interrupt is due. -/

theorem loadLeft_ok (hs : s.spv = true) (hd : s.alignmentDue (s.ea ra rb) .load = false)
    (ht : s.translate (s.ea ra rb) .load s.normalCtx = .ok real m) :
    loadLeft v ra rb s =
      complete s v (ofBytes fun j => if j < 16 - low4 (s.ea ra rb) then s.byteAt real j else 0) :=
  requireSpv_access_orAlignment_ok hs hd ht

theorem loadRight_ok (hs : s.spv = true) (hd : s.alignmentDue (s.ea ra rb) .load = false)
    (ht : s.translate (alignDown 4 (s.ea ra rb)) .load s.normalCtx = .ok real m) :
    loadRight v ra rb s =
      complete s v (ofBytes fun j =>
        if 16 - low4 (s.ea ra rb) ≤ j then s.byteAt real (j - (16 - low4 (s.ea ra rb))) else 0) :=
  requireSpv_access_orAlignment_ok hs hd ht

theorem loadSwap_ok (hs : s.spv = true)
    (ht : s.translate (alignDown 4 (s.ea ra rb)) .load s.normalCtx = .ok real m) :
    loadSwap v ra rb s = complete s v (ofBytes fun j => s.byteAt real ((j + low4 (s.ea ra rb)) % 16)) :=
  requireSpv_access_ok hs ht

theorem storeLeft_ok (hs : s.spv = true) (hd : s.alignmentDue (s.ea ra rb) .store = false)
    (ht : s.translate (s.ea ra rb) .store s.normalCtx = .ok real m) :
    storeLeft v ra rb s = .next (s.writeBytes real (16 - low4 (s.ea ra rb)) (byte (s.vr v))).advance :=
  requireSpv_access_orAlignment_ok hs hd ht

theorem storeRight_ok (hs : s.spv = true) (hd : s.alignmentDue (s.ea ra rb) .store = false)
    (ht : s.translate (alignDown 4 (s.ea ra rb)) .store s.normalCtx = .ok real m) :
    storeRight v ra rb s = .next (s.writeBytes real (low4 (s.ea ra rb))
      fun j => byte (s.vr v) (16 - low4 (s.ea ra rb) + j)).advance :=
  requireSpv_access_orAlignment_ok hs hd ht

theorem storeSwap_ok (hs : s.spv = true)
    (ht : s.translate (alignDown 4 (s.ea ra rb)) .store s.normalCtx = .ok real m) :
    storeSwap v ra rb s = .next (s.writeBytes real 16
      fun k => byte (s.vr v) ((k + (16 - low4 (s.ea ra rb))) % 16)).advance :=
  requireSpv_access_ok hs ht

end

/-! ### Partial loads and stores -/

section
variable {i : Instr} {s : State} {v : Reg}

/-- A load whose vector has the bytes `f j`. -/
theorem completes_ofBytes {f : Nat → Byte} (h : exec i s = complete s v (ofBytes f)) :
    Completes i s [.vr v] fun t => ∀ j < 16, byte (t.vr v) j = f j :=
  completes_of_complete h fun _ hv j hj => hv ▸ byte_ofBytes f j hj

/-- Rotating right by `p` bytes undoes rotating left by `p` bytes. -/
theorem rotateRight_rotateLeft {p j : Nat} (hp : p < 16) (hj : j < 16) : ((j + p) % 16 + (16 - p)) % 16 = j := by
  omega

/-- A store of `w` rotated right by `p` bytes: byte `j` of `w` is at offset `(j + p) mod 16` (rule R341). -/
theorem completes_writeBytes_rotated {real : DWord} {p : Nat} {w : Vec} (hm : Memory.wf s.mem) (hp : p < 16)
    (h : exec i s = .next (s.writeBytes real 16 fun k => byte w ((k + (16 - p)) % 16)).advance) :
    Completes i s [.bytes real 16] fun t => ∀ j < 16, t.byteAt real ((j + p) % 16) = byte w j := by
  obtain ⟨t, ht, hpc, hstored, hf⟩ := completes_of_writeBytes hm le_rfl h
  refine ⟨t, ht, hpc, fun j hj => ?_, hf⟩
  rw [hstored _ (Nat.mod_lt _ (by decide)), rotateRight_rotateLeft hp hj]

end

/-- Settles O47: each load is one of the three shared operations, past its translation and its alignment test. -/
theorem partialLoadResults : Obligations.PartialLoadResults := by
  refine fun s v ra rb real m hs => ⟨fun hd ht => ?left, fun hd ht => ?right, fun ht => ?swap⟩
  case left =>
    have h := loadLeft_ok (v := v) hs hd ht
    exact forall_mem_lForm (completes_ofBytes h) (completes_ofBytes h)
  case right =>
    have h := loadRight_ok (v := v) hs hd ht
    exact forall_mem_lForm (completes_ofBytes h) (completes_ofBytes h)
  case swap =>
    have h := loadSwap_ok (v := v) hs ht
    exact forall_mem_lForm (completes_ofBytes h) (completes_ofBytes h)

/-- Settles O48: each store writes a block of at most 16 bytes; the swap form's block is vS rotated. -/
theorem partialStoreResults : Obligations.PartialStoreResults := by
  intro s v ra rb real m hs hm
  have hp := low4_lt (s.ea ra rb)
  refine ⟨fun hd ht => ?left, fun hd ht => ?right, fun ht => ?swap⟩
  case left =>
    have h := storeLeft_ok (v := v) hs hd ht
    exact forall_mem_lForm (completes_of_writeBytes hm (Nat.sub_le ..) h) (completes_of_writeBytes hm (Nat.sub_le ..) h)
  case right =>
    have h := storeRight_ok (v := v) hs hd ht
    exact forall_mem_lForm (completes_of_writeBytes hm hp.le h) (completes_of_writeBytes hm hp.le h)
  case swap =>
    have h := storeSwap_ok (v := v) hs ht
    exact forall_mem_lForm (completes_writeBytes_rotated hm hp h) (completes_writeBytes_rotated hm hp h)

/-! ### Vectors computed from an address (rules R334 to R336) -/

/-- An address instruction completes with the bytes `f p j`, where p is the low four bits of EA; there is no
access, so no translation is asked for. -/
theorem vectorRule_fromEa {i : Instr} {s : State} {vd ra rb : Reg} {f : Nat → Nat → Byte} {E : State → Prop}
    (h : exec i s = fromEa (fun p => ofBytes (f p)) vd ra rb s)
    (hE : ∀ t : State, (∀ j < 16, byte (t.vr vd) j = f (low4 (s.ea ra rb)) j) → E t) :
    VectorRule i s [.vr vd] E := by
  refine vectorRule_of_requireSpv h fun _ => ?_
  obtain ⟨t, ht, hpc, hv, hf⟩ := complete_spec s vd (ofBytes (f (low4 (s.ea ra rb))))
  exact ⟨t, ht, hpc, hE t fun j hj => hv ▸ byte_ofBytes _ j hj, hf⟩

/-- Settles O49: the byte numbers of lvsl and lvsr are at most 31, so they fit their bytes; lvsm has a mask. -/
theorem addressVectorResults : Obligations.AddressVectorResults := by
  intro s vd ra rb
  have hp := low4_lt (s.ea ra rb)
  refine ⟨vectorRule_fromEa (f := fun p j => BitVec.ofNat 8 (p + j)) rfl fun t ht j hj => ?lvsl,
    vectorRule_fromEa (f := fun p j => BitVec.ofNat 8 (16 - p + j)) rfl fun t ht j hj => ?lvsr,
    vectorRule_fromEa (f := fun p j => if j < 16 - p then 0xFF else 0) rfl fun t ht j hj => ?lvsm⟩
  case lvsl => rw [ht j hj, BitVec.toNat_ofNat, Nat.mod_eq_of_lt (by omega)]
  case lvsr => rw [ht j hj, BitVec.toNat_ofNat, Nat.mod_eq_of_lt (by omega)]
  case lvsm => exact (ht j hj).trans (if_congr (by omega) rfl rfl)

end Sys2Proof.Machine
end

section
/-! Pack, unpack, merge, splat, permute, select and whole-register shifts: the elements of a concatenation of two sources,
the two pixel formats, and the rule of each shared operation. -/

namespace Sys2Proof.Machine

open Sys2Proof

/-! ### The elements an instruction builds, place by place -/

section
variable {i : Instr} {n k : Nat} {s : State} {vd : Reg}

/-- What an instruction leaves when its vector is built element by element. -/
theorem vectorRule_elements {f : Nat → BitVec n} {E : State → Prop} (hk : n * k = 128)
    (h : exec i s = requireSpv s (complete s vd (build n k f)))
    (hE : ∀ t : State, (∀ j < k, elem n (t.vr vd) j = f j) → E t) : VectorRule i s [.vr vd] E := by
  refine vectorRule_of_requireSpv h fun _ => ?_
  obtain ⟨t, ht, hpc, hv, hframe⟩ := complete_spec s vd (build n k f)
  exact ⟨t, ht, hpc, hE t fun j hj => hv ▸ elem_build n (width_pos hk) k f j hk hj, hframe⟩

/-- The elements a saturating instruction builds, with their flags, are those of the first `k` places alone. -/
theorem buildSat_congr {f g : Nat → BitVec n × Bool} : (∀ j < k, f j = g j) → buildSat n k f = buildSat n k g := by
  induction k with
  | zero => exact fun _ => rfl
  | succ k ih =>
    intro h
    obtain ⟨hvec, hsat⟩ := Prod.ext_iff.1 (ih fun j hj => h j (Nat.lt_succ_of_lt hj))
    simp only [buildSat] at hvec hsat
    simp only [buildSat, build, anySat, hvec, hsat, h k (Nat.lt_succ_self k)]

end

/-! ### Packs -/

/-- Element `j` of width `n` of the concatenation of two vectors of `m` elements (rule R350). -/
def elemOf2 (n m : Nat) (a b : Vec) (j : Nat) : BitVec n := if j < m then elem n a j else elem n b (j - m)

/-- The concatenations of the pack rules are these, for half-words and for words. -/
theorem halfOf2_eq : halfOf2 = elemOf2 16 8 := rfl

theorem wordOf2_eq : wordOf2 = elemOf2 32 4 := rfl

section
variable {i : Instr} {n k p m : Nat} {s : State} {vd va vb : Reg}

/-- An element of the concatenation is one of the register in whose half it stands. -/
theorem elemOf2_vr {j : Nat} (hj : j < m + m) :
    elemOf2 p m (s.vr va) (s.vr vb) j = elem p (s.vr (if j < m then va else vb)) (j % m) := by
  unfold elemOf2
  split_ifs with hlt
  · rw [Nat.mod_eq_of_lt hlt]
  · rw [Nat.mod_eq_sub_mod (by omega), Nat.mod_eq_of_lt (by omega)]

/-- A pack that applies `g` to each element of the concatenation. -/
theorem vectorRule_pack {g : BitVec p → BitVec n} {R : BitVec p → BitVec n → Prop} (hk : n * k = 128) (hm : m + m = k)
    (hR : ∀ x, R x (g x))
    (h : exec i s = vec2 (fun a b => build n k fun j => g (elemOf2 p m a b j)) vd va vb s) :
    VectorRule i s [.vr vd] fun t =>
      ∀ j < k, R (elem p (s.vr (if j < m then va else vb)) (j % m)) (elem n (t.vr vd) j) := by
  refine vectorRule_elements hk h fun t ht j hj => ?_
  rw [ht j hj, elemOf2_vr (hm ▸ hj)]
  exact hR _

/-- A saturating pack writes what the elements of the two registers give, with their flags. -/
theorem exec_packSat {g : BitVec p → BitVec n × Bool} (hm : m + m = k)
    (h : exec i s = vec2Sat (fun a b => buildSat n k fun j => g (elemOf2 p m a b j)) vd va vb s) :
    exec i s = requireSpv s (completeSat s vd
      (buildSat n k fun j => g (elem p (s.vr (if j < m then va else vb)) (j % m)))) := by
  rw [h, vec2Sat, buildSat_congr fun j hj => congrArg g (elemOf2_vr (hm ▸ hj))]

/-- A saturating pack of elements whose value is `y`, into the unsigned range. -/
theorem vectorRule_packSatU {y : BitVec p → Int} (hk : n * k = 128) (hm : m + m = k)
    (h : exec i s = vec2Sat (fun a b => buildSat n k fun j => satU n (y (elemOf2 p m a b j))) vd va vb s) :
    VectorRule i s [.vr vd, .sat] fun t =>
      (∀ j < k, ((elem n (t.vr vd) j).toNat : Int) =
        clampU n (y (elem p (s.vr (if j < m then va else vb)) (j % m)))) ∧
      SatAfter s t k fun j => outU n (y (elem p (s.vr (if j < m then va else vb)) (j % m))) :=
  vectorRule_buildSatU hk (exec_packSat (g := fun x => satU n (y x)) hm h) fun _ => rfl

/-- The same with the signed range. -/
theorem vectorRule_packSatS {y : BitVec p → Int} (hk : n * k = 128) (hm : m + m = k)
    (h : exec i s = vec2Sat (fun a b => buildSat n k fun j => satS n (y (elemOf2 p m a b j))) vd va vb s) :
    VectorRule i s [.vr vd, .sat] fun t =>
      (∀ j < k, (elem n (t.vr vd) j).toInt = clampS n (y (elem p (s.vr (if j < m then va else vb)) (j % m)))) ∧
      SatAfter s t k fun j => outS n (y (elem p (s.vr (if j < m then va else vb)) (j % m))) :=
  vectorRule_buildSatS hk (exec_packSat (g := fun x => satS n (y x)) hm h) fun _ => rfl

end

/-! ### Pixels -/

/-- A bit of a 5-bit field of a pixel, in field and word numbered from the most significant. -/
theorem getMsbD_pixelField (w : Word) {start k : Nat} (hs : start ≤ 27) (hk : k < 5) :
    (w.extractLsb' start 5).getMsbD k = w.getMsbD (27 - start + k) := by
  have hplace : 32 - (start + 5 - k) = 27 - start + k := by omega
  rw [BitVec.getMsbD_extractLsb', hplace, decide_eq_true hk, decide_eq_true (by omega), Bool.true_and, Bool.true_and]

/-- The field of a packed pixel that holds a bit. -/
theorem packPixel_getMsbD (w : Word) (i : Nat) :
    (packPixel w).getMsbD i =
      if 11 ≤ i then (w.extractLsb' 3 5).getMsbD (i - 11)
      else if 6 ≤ i then (w.extractLsb' 11 5).getMsbD (i - 6)
      else if 1 ≤ i then (w.extractLsb' 19 5).getMsbD (i - 1)
      else (w.extractLsb' 24 1).getMsbD i :=
  (BitVec.getMsbD_append (n := 1 + 5 + 5)).trans (by simp only [BitVec.getMsbD_append])

/-- `h` is the pixel `w` packed to 1/5/5/5, bits numbered from the most significant (rule R359). -/
def IsPackedPixel (w : Word) (h : Half) : Prop :=
  h.getMsbD 0 = w.getMsbD 7 ∧ ∀ k < 5, h.getMsbD (1 + k) = w.getMsbD (8 + k) ∧
    h.getMsbD (6 + k) = w.getMsbD (16 + k) ∧ h.getMsbD (11 + k) = w.getMsbD (24 + k)

theorem isPackedPixel_packPixel (w : Word) : IsPackedPixel w (packPixel w) := by
  refine ⟨?first, fun k hk => ⟨?second, ?third, ?fourth⟩⟩
  case first => simp [packPixel_getMsbD]
  case second =>
    rw [packPixel_getMsbD, if_neg (by omega), if_neg (by omega), if_pos (by omega), Nat.add_sub_cancel_left]
    exact getMsbD_pixelField w (by decide) hk
  case third =>
    rw [packPixel_getMsbD, if_neg (by omega), if_pos (by omega), Nat.add_sub_cancel_left]
    exact getMsbD_pixelField w (by decide) hk
  case fourth =>
    rw [packPixel_getMsbD, if_pos (by omega), Nat.add_sub_cancel_left]
    exact getMsbD_pixelField w (by decide) hk

theorem toNat_append_eq_add {n m : Nat} (x : BitVec n) (y : BitVec m) :
    (x ++ y).toNat = x.toNat * 2 ^ m + y.toNat := by
  rw [BitVec.toNat_append, ← Nat.shiftLeft_add_eq_or_of_lt y.isLt, Nat.shiftLeft_eq]

/-- A pixel's first bit, extended to a byte. -/
theorem pixelFlag_toNat (h : Half) :
    ((h.extractLsb' 15 1).signExtend 8).toNat = if 2 ^ 15 ≤ h.toNat then 0xFF else 0 := by
  have hh := h.isLt
  have hbit : (h.extractLsb' 15 1).toNat = h.toNat / 2 ^ 15 := by
    rw [BitVec.extractLsb'_toNat, Nat.shiftRight_eq_div_pow]
    omega
  rw [BitVec.toNat_signExtend, BitVec.msb_eq_decide, BitVec.toNat_setWidth, hbit]
  simp only [decide_eq_true_eq]
  split_ifs <;> omega

/-- A pixel's 5-bit field, with zeros before it in its byte. -/
theorem pixelField_toNat (h : Half) (start : Nat) :
    ((h.extractLsb' start 5).setWidth 8).toNat = h.toNat / 2 ^ start % 32 := by
  rw [BitVec.toNat_setWidth, BitVec.extractLsb'_toNat, Nat.shiftRight_eq_div_pow]
  omega

/-- The value of an unpacked pixel (rule R364). -/
theorem unpackPixel_toNat (h : Half) :
    (unpackPixel h).toNat = (if 2 ^ 15 ≤ h.toNat then 0xFF000000 else 0) + h.toNat / 2 ^ 10 % 32 * 2 ^ 16 +
      h.toNat / 2 ^ 5 % 32 * 2 ^ 8 + h.toNat % 32 := by
  simp only [unpackPixel, toNat_append_eq_add, pixelFlag_toNat, pixelField_toNat]
  split_ifs <;> omega

/-! ### Unpacks of the low half -/

/-- Sign extension keeps the value of element `j` of those from `from0` on (rules R362, R363). -/
theorem toInt_signExtend_elem {n m : Nat} (h : n ≤ m) (b : Vec) (j from0 : Nat) :
    ((elem n b (j + from0)).signExtend m).toInt = (elem n b (from0 + j)).toInt := by
  rw [BitVec.toInt_signExtend_of_le h, Nat.add_comm]

/-! ### Merges -/

/-- A merge of the `m` elements from `from0` on of each source; `src` numbers them. -/
theorem vectorRule_merge {i : Instr} {n k m from0 : Nat} {src : Nat → Nat} {s : State} {vd va vb : Reg}
    (hk : n * k = 128) (hm : 2 * m = k) (hsrc : ∀ j, from0 + j = src j)
    (h : exec i s = vec2 (fun a b => build n k fun j =>
      if j % 2 = 0 then elem n a (from0 + j / 2) else elem n b (from0 + j / 2)) vd va vb s) :
    VectorRule i s [.vr vd] fun t => ∀ j < m, elem n (t.vr vd) (2 * j) = elem n (s.vr va) (src j) ∧
      elem n (t.vr vd) (2 * j + 1) = elem n (s.vr vb) (src j) := by
  refine vectorRule_elements hk h fun t ht j hj => ⟨?even, ?odd⟩
  case even =>
    have hhalf : 2 * j / 2 = j := by omega
    rw [ht _ (by omega), if_pos (Nat.mul_mod_right 2 j), hhalf, hsrc]
  case odd =>
    have hhalf : (2 * j + 1) / 2 = j := by omega
    rw [ht _ (by omega), if_neg (by omega), hhalf, hsrc]

/-! ### Select -/

theorem select_getLsbD (a b c : Vec) {j : Nat} (hj : j < 128) :
    (select a b c).getLsbD j = if c.getLsbD j then b.getLsbD j else a.getLsbD j := by
  rw [select, BitVec.getLsbD_or, getLsbD_andc _ _ _ hj, BitVec.getLsbD_and]
  cases c.getLsbD j <;> simp

/-! ### Whole-register shifts -/

theorem shiftLeft_toNat {n : Nat} (x : BitVec n) (c : Nat) : (x <<< c).toNat = x.toNat * 2 ^ c % 2 ^ n := by
  rw [BitVec.toNat_shiftLeft, Nat.shiftLeft_eq]

theorem shiftRight_toNat {n : Nat} (x : BitVec n) (c : Nat) : (x >>> c).toNat = x.toNat / 2 ^ c := by
  rw [BitVec.toNat_ushiftRight, Nat.shiftRight_eq_div_pow]

theorem sameCounts_iff (b : Vec) : sameCounts b = true ↔ ∀ j < 16, (byte b j).toNat % 8 = b.toNat % 8 := by
  simp only [sameCounts, List.all_eq_true, List.mem_range, beq_iff_eq]

section
variable {i : Instr} {s : State} {f : Vec → Nat → Vec} {g : Nat → Nat → Nat} {vd va vb : Reg}

/-- A shift by bits completes whatever the counts are; where they agree, no free value is drawn and vD is the shifted vA. -/
theorem vectorRule_bitShift (hf : ∀ a c, (f a c).toNat = g a.toNat c) (h : exec i s = bitShift f vd va vb s) :
    VectorRule i s [.vr vd, .draws] fun t =>
      (∀ j < 16, (byte (s.vr vb) j).toNat % 8 = (s.vr vb).toNat % 8) →
        (t.vr vd).toNat = g (s.vr va).toNat ((s.vr vb).toNat % 8) ∧ t.freeCtr = s.freeCtr := by
  refine vectorRule_of_requireSpv h fun _ => ?_
  rw [← sameCounts_iff]
  split_ifs with hcounts
  · obtain ⟨t, ht, hpc, ⟨hv, hctr⟩, hframe⟩ := complete_drawn_spec s 0 vd (f (s.vr va) ((s.vr vb).toNat % 8))
    exact ⟨t, ht, hpc, fun _ => ⟨by rw [hv, hf], hctr⟩, hframe⟩
  · obtain ⟨t, ht, hpc, -, hframe⟩ := complete_drawn_spec s 1 vd s.undefVec
    exact ⟨t, ht, hpc, fun hsame => absurd hsame hcounts, hframe⟩

/-- A shift by octets: eight bits for each that bits 121 to 124 of vB count. -/
theorem vectorRule_octetShift (hf : ∀ a c, (f a c).toNat = g a.toNat c)
    (h : exec i s = vec2 (fun a b => f a (8 * octets b)) vd va vb s) :
    VectorRule i s [.vr vd] fun t => (t.vr vd).toNat = g (s.vr va).toNat (8 * ((s.vr vb).toNat / 8 % 16)) :=
  vectorRule_vec2 h fun _ ht => ht ▸ hf _ _

end

/-! ### The instructions -/

/-- Settles O35: each element of the concatenation loses its high half, or becomes a packed pixel. -/
theorem moduloPackResults : Obligations.ModuloPackResults := fun _ _ _ _ =>
  ⟨vectorRule_pack (R := fun x d => d.toNat = x.toNat % 2 ^ 8) rfl rfl (BitVec.toNat_setWidth 8) rfl,
    vectorRule_pack (R := fun x d => d.toNat = x.toNat % 2 ^ 16) rfl rfl (BitVec.toNat_setWidth 16) rfl,
    vectorRule_pack (R := IsPackedPixel) rfl rfl isPackedPixel_packPixel rfl⟩

/-- Settles O36: each element of the concatenation goes through `satU` or `satS`, and SAT collects their flags. -/
theorem saturatingPackResults : Obligations.SaturatingPackResults := fun _ _ _ _ =>
  ⟨vectorRule_packSatU (y := fun x => x.toNat) rfl rfl rfl, vectorRule_packSatU (y := fun x => x.toNat) rfl rfl rfl,
    vectorRule_packSatU (y := BitVec.toInt) rfl rfl rfl, vectorRule_packSatU (y := BitVec.toInt) rfl rfl rfl,
    vectorRule_packSatS (y := BitVec.toInt) rfl rfl rfl, vectorRule_packSatS (y := BitVec.toInt) rfl rfl rfl⟩

/-- Settles O37: a sign extension keeps the value, and a pixel's fields are those of its half-word. -/
theorem unpackResults : Obligations.UnpackResults := fun _ _ _ =>
  ⟨vectorRule_build rfl rfl fun _ => BitVec.toInt_signExtend_of_le (by decide),
    vectorRule_build rfl rfl fun _ => BitVec.toInt_signExtend_of_le (by decide),
    vectorRule_build rfl rfl fun _ => toInt_signExtend_elem (by decide) ..,
    vectorRule_build rfl rfl fun _ => toInt_signExtend_elem (by decide) ..,
    vectorRule_build rfl rfl fun _ => unpackPixel_toNat _,
    vectorRule_build rfl rfl fun j => by rw [Nat.add_comm j]; exact unpackPixel_toNat _⟩

/-- Settles O38: the merged elements start at 0 in the high forms and in the middle of the vector in the low ones. -/
theorem mergeResults : Obligations.MergeResults := fun _ _ _ _ =>
  ⟨vectorRule_merge rfl rfl Nat.zero_add rfl, vectorRule_merge rfl rfl Nat.zero_add rfl,
    vectorRule_merge rfl rfl Nat.zero_add rfl, vectorRule_merge rfl rfl (fun _ => rfl) rfl,
    vectorRule_merge rfl rfl (fun _ => rfl) rfl, vectorRule_merge rfl rfl (fun _ => rfl) rfl⟩

/-- Settles O39: all elements are built from one, and a sign extension keeps the value of the immediate. -/
theorem splatResults : Obligations.SplatResults := fun _ _ _ =>
  ⟨fun _ => vectorRule_elements rfl rfl fun _ ht => ht,
    fun _ => vectorRule_elements rfl rfl fun _ ht => ht,
    fun _ => vectorRule_elements rfl rfl fun _ ht => ht,
    fun _ => vectorRule_build rfl rfl fun _ => BitVec.toInt_signExtend_of_le (by decide),
    fun _ => vectorRule_build rfl rfl fun _ => BitVec.toInt_signExtend_of_le (by decide),
    fun _ => vectorRule_build rfl rfl fun _ => BitVec.toInt_signExtend_of_le (by decide)⟩

/-- Settles O40: a byte of the result is a byte of the concatenation, and a selected bit comes from one source. -/
theorem permuteSelectResults : Obligations.PermuteSelectResults := fun _ _ _ _ _ =>
  ⟨vectorRule_elements rfl rfl fun _ ht => ht,
    vectorRule_vec3 rfl fun _ ht _ hj => ht ▸ select_getLsbD _ _ _ hj,
    fun _ => vectorRule_elements rfl rfl fun _ ht => ht⟩

/-- Settles O41: shifting by a count multiplies or divides by its power of two; an octet is eight bits. -/
theorem longShiftResults : Obligations.LongShiftResults := fun _ _ _ _ =>
  ⟨vectorRule_bitShift (g := fun a c => a * 2 ^ c % 2 ^ 128) shiftLeft_toNat rfl,
    vectorRule_bitShift (g := fun a c => a / 2 ^ c) shiftRight_toNat rfl,
    vectorRule_octetShift (g := fun a c => a * 2 ^ c % 2 ^ 128) shiftLeft_toNat rfl,
    vectorRule_octetShift (g := fun a c => a / 2 ^ c) shiftRight_toNat rfl⟩

end Sys2Proof.Machine
end

section
/-! Data stream instructions and moves from general registers: a data stream instruction only moves the pc, and the
words of a vector put together from double words. -/

namespace Sys2Proof.Machine

open Sys2Proof

/-! ### Data stream instructions (rules R407 to R413) -/

/-- Each instruction of the class is the data stream no-operation, which tests no bit of the MSR (rule R407). -/
theorem exec_eq_streamNop {i : Instr} (h : kindOf i = .stream) (s : State) : exec i s = streamNop s := by
  cases i with
  | dst | dstt | dstst | dststt | dss | dssall => rfl
  | _ => cases h

/-- Settles O10: the state left is `s` with the pc moved on. -/
theorem streamInstructionsDoNothing : Obligations.StreamInstructionsDoNothing := fun _ s h =>
  ⟨s.advance, exec_eq_streamNop h s, rfl, trivial, frame_advance s⟩

/-! ### Moves from general registers (rules R403, R404) -/

/-- An instruction that tests MSR[SPV] and then puts the vector `v` in vD. -/
theorem vectorRule_complete {i : Instr} {s : State} {vd : Reg} {v : Vec} {E : State → Prop}
    (h : exec i s = requireSpv s (complete s vd v)) (hE : ∀ t : State, t.vr vd = v → E t) :
    VectorRule i s [.vr vd] E := by
  refine vectorRule_of_requireSpv h fun _ => ?_
  obtain ⟨t, ht, hpc, hv, hframe⟩ := complete_spec s vd v
  exact ⟨t, ht, hpc, hE t hv, hframe⟩

/-- Words 0 and 1 of a vector are those of its upper double word, words 2 and 3 those of its lower one. -/
theorem word_append (a b c d : Word) :
    word ((a ++ b) ++ (c ++ d)) 0 = a ∧ word ((a ++ b) ++ (c ++ d)) 1 = b ∧
      word ((a ++ b) ++ (c ++ d)) 2 = c ∧ word ((a ++ b) ++ (c ++ d)) 3 = d :=
  have upper {x : Nat} (hx : 64 ≤ x) : ((a ++ b) ++ (c ++ d)).extractLsb' x 32 = (a ++ b).extractLsb' (x - 64) 32 :=
    BitVec.extractLsb'_append_eq_of_le hx
  have lower {x : Nat} (hx : x + 32 ≤ 64) : ((a ++ b) ++ (c ++ d)).extractLsb' x 32 = (c ++ d).extractLsb' x 32 :=
    BitVec.extractLsb'_append_eq_of_add_le hx
  ⟨(upper (by decide)).trans BitVec.extractLsb'_append_eq_left,
    (upper (by decide)).trans BitVec.extractLsb'_append_eq_right,
    (lower (by decide)).trans BitVec.extractLsb'_append_eq_left,
    (lower (by decide)).trans BitVec.extractLsb'_append_eq_right⟩

/-- On a 64-bit implementation `mvidsplt` is a move of the two registers. -/
theorem exec_mvidsplt_of_impl64 {s : State} (h : s.cfg.impl64 = true) (vd ra rb : Reg) :
    exec (.mvidsplt vd ra rb) s = requireSpv s (complete s vd (s.gpr ra ++ s.gpr rb)) := if_pos h

/-- On a 32-bit implementation it is no instruction of the machine (rule R430). -/
theorem exec_mvidsplt_of_not_impl64 {s : State} (h : s.cfg.impl64 = false) (vd ra rb : Reg) :
    exec (.mvidsplt vd ra rb) s = orBase s (.categoryAbsent "mvidsplt") := if_neg (h ▸ Bool.false_ne_true)

/-- Settles O23: both moves complete with a concatenation of registers, or of their low words, taken twice. -/
theorem integerSplatResults : Obligations.IntegerSplatResults := by
  refine fun s vd ra rb => ⟨fun h64 => ?_, fun h32 => ?_, ?_⟩
  · refine vectorRule_complete (exec_mvidsplt_of_impl64 h64 vd ra rb) fun t ht => ?_
    rw [ht]
    exact ⟨BitVec.extractLsb'_append_eq_left, BitVec.extractLsb'_append_eq_right⟩
  · rw [exec_mvidsplt_of_not_impl64 h32]
    exact orBase_spec ..
  · exact vectorRule_complete rfl fun t ht => ht ▸ word_append ..

end Sys2Proof.Machine
end

section
/-! Frames, with the parts that may change as an argument: a state that differs from `s` in fields of these parts alone is
written as `s` with those fields replaced. -/

namespace Sys2Proof.Machine

open Sys2Proof

/-- Nothing has changed, whatever may change. -/
theorem frame_refl (may : List Part) (s : State) : Frame may s s := by
  constructor <;> simp

/-- A frame that lets more parts change says less. -/
theorem frame_mono {may more : List Part} {s t : State} (hsub : may ⊆ more) (h : Frame may s t) : Frame more s t :=
  { h with
    vrs := fun r hr => h.vrs r fun hm => hr (hsub hm)
    gprs := fun r hr => h.gprs r fun hm => hr (hsub hm)
    sat := fun hr => h.sat fun hm => hr (hsub hm)
    vscr := fun hr => h.vscr fun hm => hr (hsub hm)
    cr6 := fun hr => h.cr6 fun hm => hr (hsub hm)
    vrsave := fun hr => h.vrsave fun hm => hr (hsub hm)
    ctr := fun hr => h.ctr fun hm => hr (hsub hm)
    lr := fun hr => h.lr fun hm => hr (hsub hm)
    xerCA := fun hr => h.xerCA fun hm => hr (hsub hm)
    msr := fun hr => h.msr fun hm => hr (hsub hm)
    srr0 := fun hr => h.srr0 fun hm => hr (hsub hm)
    srr1 := fun hr => h.srr1 fun hm => hr (hsub hm)
    gsrr := fun hr => h.gsrr fun hm => hr (hsub hm)
    esr := fun hr => h.esr fun hm => hr (hsub hm)
    gesr := fun hr => h.gesr fun hm => hr (hsub hm)
    dear := fun hr => h.dear fun hm => hr (hsub hm)
    ivor32 := fun hr => h.ivor32 fun hm => hr (hsub hm)
    ivor33 := fun hr => h.ivor33 fun hm => hr (hsub hm)
    draws := fun hr => h.draws fun hm => hr (hsub hm)
    memory := fun b hb => h.memory b fun a n hm => hb a n (hsub hm) }

end Sys2Proof.Machine
end

section
/-! The base instructions: arithmetic on general registers modulo the register width, the special-purpose registers, and
the targets of branches. -/

namespace Sys2Proof.Machine

open Sys2Proof

/-! ### Arithmetic modulo the width of registers and addresses (rules R7, R41) -/

/-- A bit string is, modulo a divisor of 2^n, what it is as a signed number. -/
theorem toNat_emod_eq_toInt_emod {n : Nat} {m : Int} (hm : m ∣ 2 ^ n) (x : BitVec n) :
    (x.toNat : Int) % m = x.toInt % m := by
  refine (Int.emod_emod_of_dvd _ hm).symm.trans ?_
  rw [BitVec.toInt_eq_toNat_bmod, ← Int.emod_emod_of_dvd (Int.bmod _ _) hm]
  congr 1
  exact_mod_cast (Int.bmod_emod (x := (x.toNat : Int)) (m := 2 ^ n)).symm

/-- The sum of an address or register and a signed displacement. -/
theorem toNat_add_emod {m : Int} (hm : m ∣ 2 ^ 64) (a d : DWord) :
    ((a + d).toNat : Int) % m = (a.toNat + d.toInt) % m := by
  have hsum : ((a + d).toNat : Int) % m = (a.toNat + d.toNat) % m := by
    rw [BitVec.toNat_add]
    push_cast
    exact Int.emod_emod_of_dvd _ hm
  rw [hsum, Int.add_emod, toNat_emod_eq_toInt_emod hm d, ← Int.add_emod]

theorem width_dvd (b : Bool) : (if b then 2 ^ 64 else 2 ^ 32 : Int) ∣ 2 ^ 64 := by
  cases b <;> decide

/-- A value cut to XLEN bits, as an integer. -/
theorem toXlen_emod (c : Cfg) (v : DWord) :
    ((Cfg.toXlen c v).toNat : Int) = v.toNat % (if c.impl64 then 2 ^ 64 else 2 ^ 32 : Int) := by
  rw [toXlen_toNat]
  cases c.impl64 <;> rfl

/-- An address cut to the computation mode, as an integer. -/
theorem modeAddr_emod (s : State) (a : DWord) :
    ((s.modeAddr a).toNat : Int) = a.toNat % (if s.is64 then 2 ^ 64 else 2 ^ 32 : Int) := by
  rw [modeAddr_toNat]
  cases s.is64 <;> rfl

/-- A value of 32 bits or fewer is its own low XLEN bits. -/
theorem toXlen_setWidth (c : Cfg) {n : Nat} (hn : n ≤ 32) (x : BitVec n) :
    Cfg.toXlen c (x.setWidth 64) = x.setWidth 64 := by
  unfold Cfg.toXlen
  split
  · rfl
  · rw [BitVec.setWidth_setWidth_of_le x (show 32 ≤ 64 by decide), BitVec.setWidth_setWidth (by omega)]

/-! ### Immediate arithmetic (rules R421, R422, R427) -/

/-- An instruction that ends with `GPR[rD] <- v`. -/
theorem completes_of_setGpr {i : Instr} {s : State} {rd : Reg} {v : DWord} {E : State → Prop}
    (h : exec i s = .next (s.setGpr rd v).advance) (hE : ∀ t : State, t.gpr rd = Cfg.toXlen s.cfg v → E t) :
    Completes i s [.gpr rd] E :=
  ⟨_, h, rfl, hE _ (gpr_setGpr_same ..), frame_setGpr ..⟩

/-- Settles O19: the displacement of `addi` is the signed immediate, that of `addis` the immediate with 16 zeros after it. -/
theorem immediateArithmeticResults : Obligations.ImmediateArithmeticResults := by
  intro s rd ra imm
  have hm := width_dvd s.cfg.impl64
  refine ⟨completes_of_setGpr rfl fun t ht => ?_, completes_of_setGpr rfl fun t ht => ?_,
    completes_of_setGpr rfl fun t ht => ?_⟩
  · rw [ht, toXlen_emod, toNat_add_emod hm, BitVec.toInt_signExtend_of_le (by decide)]
    rfl
  · rw [ht, toXlen_emod, toNat_add_emod hm, BitVec.toInt_signExtend_of_le (by decide), BitVec.toInt_append_zero,
      Int.mul_comm]
    rfl
  · rw [ht, toXlen_emod, BitVec.toNat_or, BitVec.toNat_setWidth_of_le (by decide)]

/-! ### `srawi` (rule R423) -/

/-- The bits shifted out are the remainder of the unsigned word, or of the signed one. -/
theorem shiftCarry_iff (w : Word) {k : Nat} (hk : k ≤ 32) :
    shiftCarry w k = true ↔ w.toInt < 0 ∧ w.toInt % 2 ^ k ≠ 0 := by
  have hmod : w.toInt % 2 ^ k = ((w.toNat % 2 ^ k : Nat) : Int) := by
    rw [← toNat_emod_eq_toInt_emod (pow_dvd_pow 2 hk)]
    push_cast
    rfl
  rw [shiftCarry, show w.getLsbD 31 = w.msb from rfl, BitVec.msb_eq_toInt, hmod]
  simp only [Bool.and_eq_true, decide_eq_true_eq, bne_iff_ne, ne_eq, Int.natCast_eq_zero]

/-- The shifted word is the floor of the quotient. -/
theorem toInt_sshiftRight_eq_div (w : Word) (k : Nat) : (w.sshiftRight k).toInt = w.toInt / 2 ^ k := by
  rw [BitVec.toInt_sshiftRight, Int.shiftRight_eq_div_pow]
  norm_cast

/-- The low word of a sign-extended word, cut to XLEN bits. -/
theorem toXlen_signExtend_low (c : Cfg) (x : Word) : (Cfg.toXlen c (x.signExtend 64)).setWidth 32 = x := by
  have hx : (x.signExtend 64).setWidth 32 = x := by
    apply BitVec.eq_of_getLsbD_eq
    intro j hj
    rw [BitVec.getLsbD_setWidth, BitVec.getLsbD_signExtend, if_pos hj]
    simp [hj, Nat.lt_of_lt_of_le hj (show 32 ≤ 64 by decide)]
  unfold Cfg.toXlen
  split
  · exact hx
  · rw [BitVec.setWidth_setWidth_of_le _ (by decide), BitVec.setWidth_eq, hx]

/-- Settles O20: whatever the register width, its low word is the shifted word, and CA is the carry of the shift. -/
theorem shiftRightAlgebraicWordResult : Obligations.ShiftRightAlgebraicWordResult := by
  intro s ra rs sh
  have hgpr := gpr_setGpr_same s ra ((((s.gpr rs).setWidth 32).sshiftRight sh.toNat).signExtend 64)
  refine ⟨_, rfl, rfl, ⟨?_, fun h64 => ?_, shiftCarry_iff _ (by omega)⟩, ?_⟩
  · refine (congrArg (fun v : DWord => (v.setWidth 32).toInt) hgpr).trans ?_
    rw [toXlen_signExtend_low, toInt_sshiftRight_eq_div]
  · refine (congrArg BitVec.toInt hgpr).trans ?_
    rw [Cfg.toXlen, if_pos h64, BitVec.toInt_signExtend_of_le (by decide), toInt_sshiftRight_eq_div]
  · exact
      { frame_mono (more := [.gpr ra, .xerCA]) (by simp) (frame_setGpr s ra _) with
        xerCA := fun h => absurd (by simp) h }

/-! ### Special-purpose registers (rules R428, R429) -/

/-- Where the number names a register that is accessible, the instruction goes on. -/
theorem withSpr_ok {n : BitVec 10} {q : Spr} {s : State} (hn : Spr.ofNum n = some q)
    (hp : q.supervisor = true → s.prBit = false) (go : Spr → Result) : withSpr n s go = go q := by
  simp only [withSpr, hn]
  split
  next hq => rw [requireSupervisor, hp hq]; rfl
  next => rfl

/-- A supervisor register in user state raises the program interrupt (rule R461). -/
theorem withSpr_privileged {n : BitVec 10} {q : Spr} {s : State} (hn : Spr.ofNum n = some q)
    (hq : q.supervisor = true) (hp : s.prBit = true) (go : Spr → Result) : withSpr n s go = .next s.privileged := by
  simp only [withSpr, hn, hq, if_true, requireSupervisor, hp]

/-- A number that names no register is left to the base machine (rule R430). -/
theorem withSpr_none {n : BitVec 10} {s : State} (hn : Spr.ofNum n = none) (go : Spr → Result) :
    withSpr n s go = orBase s (.sprNotListed n) := by
  simp only [withSpr, hn]

/-- `mfspr` of an accessible register. -/
theorem completes_mfspr {n : BitVec 10} {q : Spr} {s : State} {rd : Reg} (hn : Spr.ofNum n = some q)
    (hp : q.supervisor = true → s.prBit = false) :
    Completes (.mfspr rd n) s [.gpr rd] fun t => t.gpr rd = Cfg.toXlen s.cfg (s.readSpr q) :=
  completes_of_setGpr (withSpr_ok hn hp _) fun _ ht => ht

/-- The same for a register of 32 bits or fewer, which XLEN does not cut. -/
theorem completes_mfspr_narrow {n : BitVec 10} {q : Spr} {s : State} {rd : Reg} {k : Nat} {x : BitVec k}
    (hn : Spr.ofNum n = some q) (hp : q.supervisor = true → s.prBit = false) (hx : s.readSpr q = x.setWidth 64)
    (hk : k ≤ 32) : Completes (.mfspr rd n) s [.gpr rd] fun t => t.gpr rd = x.setWidth 64 :=
  completes_of_setGpr (withSpr_ok hn hp _) fun _ ht => by rw [ht, hx, toXlen_setWidth _ hk]

/-- Settles O17: each number names its register, and three of the registers are accessible in every state. -/
theorem moveFromSprResults : Obligations.MoveFromSprResults := fun _ _ =>
  ⟨completes_mfspr (q := .lr) rfl nofun, completes_mfspr (q := .ctr) rfl nofun,
    completes_mfspr_narrow (q := .vrsave) rfl nofun rfl (by decide), fun hp =>
    ⟨completes_mfspr (q := .srr0) rfl fun _ => hp, completes_mfspr (q := .srr1) rfl fun _ => hp,
      completes_mfspr_narrow (q := .ivor32) rfl (fun _ => hp) rfl (by decide),
      completes_mfspr_narrow (q := .ivor33) rfl (fun _ => hp) rfl (by decide)⟩⟩

/-- The part of the state that is an SPR. -/
def sprPart : Spr → Part
  | .lr => .lr
  | .ctr => .ctr
  | .srr0 => .srr0
  | .srr1 => .srr1
  | .vrsave => .vrsave
  | .ivor32 => .ivor32
  | .ivor33 => .ivor33

/-- Writing an SPR changes that register alone. -/
theorem frame_writeSpr (s : State) (q : Spr) (v : DWord) : Frame [sprPart q] s (s.writeSpr q v) := by
  have hself : sprPart q ∈ [sprPart q] := List.mem_singleton_self _
  have h := frame_refl [sprPart q] s
  cases q with
  | lr => exact { h with lr := absurd hself }
  | ctr => exact { h with ctr := absurd hself }
  | srr0 => exact { h with srr0 := absurd hself }
  | srr1 => exact { h with srr1 := absurd hself }
  | vrsave => exact { h with vrsave := absurd hself }
  | ivor32 => exact { h with ivor32 := absurd hself }
  | ivor33 => exact { h with ivor33 := absurd hself }

/-- Writing an SPR does not touch what the next address depends on. -/
theorem writeSpr_advance_pc (s : State) (q : Spr) (v : DWord) :
    (s.writeSpr q v).advance.pc = s.modeAddr (s.pc + 4) := by
  cases q <;> rfl

/-- `mtspr` of an accessible register. -/
theorem completes_mtspr {n : BitVec 10} (q : Spr) {s : State} {rs : Reg} {E : State → Prop}
    (hn : Spr.ofNum n = some q) (hp : q.supervisor = true → s.prBit = false)
    (hE : E (s.writeSpr q (s.gpr rs)).advance) : Completes (.mtspr n rs) s [sprPart q] E :=
  ⟨_, withSpr_ok hn hp _, writeSpr_advance_pc .., hE, { frame_writeSpr s q (s.gpr rs) with }⟩

/-- The 12 high bits that `mtspr` puts in an IVOR are those of the register's low half-word (rule R32). -/
theorem ivorValue_high (v : DWord) : (v.setWidth 16 &&& 0xFFF0#16).extractLsb' 4 12 = v.extractLsb' 4 12 := by
  have hmask : (0xFFF0#16).extractLsb' 4 12 = BitVec.allOnes 12 := rfl
  rw [BitVec.extractLsb'_and, hmask, BitVec.and_allOnes, BitVec.extractLsb'_setWidth_of_le (by decide)]

/-- Settles O18: each number names its register; an IVOR keeps the low half-word but its last four bits. -/
theorem moveToSprResults : Obligations.MoveToSprResults := fun _ _ =>
  ⟨completes_mtspr .lr rfl nofun rfl, completes_mtspr .ctr rfl nofun rfl, completes_mtspr .vrsave rfl nofun rfl,
    fun hp =>
    ⟨completes_mtspr .srr0 rfl (fun _ => hp) rfl, completes_mtspr .srr1 rfl (fun _ => hp) rfl,
      completes_mtspr .ivor32 rfl (fun _ => hp) ⟨ivorValue_aligned _, ivorValue_high _⟩,
      completes_mtspr .ivor33 rfl (fun _ => hp) ⟨ivorValue_aligned _, ivorValue_high _⟩⟩⟩

/-! ### Branches (rules R425, R426) -/

/-- A branch target: the displacement field has two zero bits appended. -/
theorem modeAddr_branchTarget (s : State) {n : Nat} (hn : n + 2 ≤ 64) (d : BitVec n) :
    ((s.modeAddr (s.pc + (d ++ 0#2).signExtend 64)).toNat : Int) =
      (s.pc.toNat + 4 * d.toInt) % (if s.is64 then 2 ^ 64 else 2 ^ 32) := by
  rw [modeAddr_emod, toNat_add_emod (width_dvd _), BitVec.toInt_signExtend_of_le hn, BitVec.toInt_append_zero]
  rfl

/-- The address of the next instruction (rule R44). -/
theorem modeAddr_nextAddress (s : State) :
    ((s.modeAddr (s.pc + 4)).toNat : Int) = (s.pc.toNat + 4) % (if s.is64 then 2 ^ 64 else 2 ^ 32) := by
  rw [modeAddr_emod, toNat_add_emod (width_dvd _)]
  rfl

/-- CTR is kept where BO[2] is 1. -/
theorem branchCtr_kept {s : State} {bo : BitVec 5} (h : bo.getMsbD 2 = true) : s.branchCtr bo = s.ctr := if_pos h

/-- CTR is decremented where BO[2] is 0. -/
theorem branchCtr_decremented {s : State} {bo : BitVec 5} (h : bo.getMsbD 2 = false) :
    ((s.branchCtr bo).toNat : Int) = ((s.ctr.toNat : Int) - 1) % (if s.cfg.impl64 then 2 ^ 64 else 2 ^ 32) := by
  rw [State.branchCtr, h, if_neg Bool.false_ne_true, toXlen_emod, BitVec.sub_eq_add_neg,
    toNat_add_emod (width_dvd _)]
  rfl

/-- The two tests of a conditional branch, in the words of rule R426. -/
theorem branchTaken_iff (s : State) (bo bi : BitVec 5) :
    s.branchTaken bo bi = true ↔
      (bo.getMsbD 2 = true ∨
        (((s.branchCtr bo).toNat : Int) % (if s.is64 then 2 ^ 64 else 2 ^ 32) = 0 ↔ bo.getMsbD 3 = true)) ∧
      (bo.getMsbD 0 = true ∨ s.crBit bi = bo.getMsbD 1) := by
  have hzero : ((s.branchCtr bo).toNat : Int) % (if s.is64 then 2 ^ 64 else 2 ^ 32) = 0 ↔
      s.modeAddr (s.branchCtr bo) = 0 := by
    rw [← modeAddr_emod, Int.natCast_eq_zero]
    exact BitVec.toNat_inj (y := 0)
  rw [hzero]
  simp only [State.branchTaken, Bool.and_eq_true, Bool.or_eq_true, beq_iff_eq]
  cases bo.getMsbD 3 <;> simp

/-- Settles O21: the target is the pc plus the displacement, and the branch is taken where the two tests hold. -/
theorem branchResults : Obligations.BranchResults := by
  intro s li bo bi bd
  refine ⟨⟨_, rfl, modeAddr_branchTarget s (by decide) li, { frame_refl [] s with }⟩, _, rfl, ?_⟩
  have hctr : Frame [.ctr] s { s with ctr := s.branchCtr bo } :=
    { frame_refl [.ctr] s with ctr := absurd (List.mem_singleton_self _) }
  by_cases h : s.branchTaken bo bi = true
  · rw [if_pos h]
    exact ⟨{ hctr with }, branchCtr_kept, branchCtr_decremented,
      fun _ => modeAddr_branchTarget s (by decide) bd, absurd ((branchTaken_iff ..).1 h)⟩
  · rw [if_neg h]
    exact ⟨{ hctr with }, branchCtr_kept, branchCtr_decremented,
      fun ht => absurd ((branchTaken_iff ..).2 ht) h, fun _ => modeAddr_nextAddress s⟩

end Sys2Proof.Machine
end

section
/-! Interrupts: the tests that begin an instruction, each taking its interrupt and nothing else; what an entry directed to the
guest leaves; and the return, which undoes an entry. -/

namespace Sys2Proof.Machine

open Sys2Proof

/-! ### AltiVec unavailable (rule R441) -/

/-- Every AltiVec instruction that exists begins with `RequireSPV()`. -/
theorem exec_eq_requireSpv {i : Instr} {s : State} (hk : kindOf i = .vector)
    (hx : ∀ d a b, i = .mvidsplt d a b → s.cfg.impl64 = true) : ∃ r, exec i s = requireSpv s r := by
  cases i with
  | addi | addis | bc | b | ori | srawi | mfspr | mtspr | rfi | dst | dstt | dstst | dststt | dss | dssall | lvepx
  | lvepxl | stvepx | stvepxl => cases hk
  | mvidsplt d a b => exact ⟨_, exec_mvidsplt_of_impl64 (hx d a b rfl) d a b⟩
  | _ => exact ⟨_, rfl⟩

/-- An external-PID instruction that exists tests MSR[PR], then MSR[SPV] (rules R302, R461). -/
theorem exec_eq_requireSupervisor {i : Instr} {s : State} (hk : kindOf i = .externalPid) (hx : s.cfg.hasEPD = true) :
    ∃ r, exec i s = requireSupervisor s (requireSpv s r) := by
  cases i with
  | lvepx | lvepxl | stvepx | stvepxl => exact ⟨_, if_pos hx⟩
  | _ => cases hk

theorem requireSupervisor_supervisor {s : State} (h : s.prBit = false) (r : Result) : requireSupervisor s r = r :=
  if_neg (h ▸ Bool.false_ne_true)

theorem requireSupervisor_user {s : State} (h : s.prBit = true) (r : Result) :
    requireSupervisor s r = .next s.privileged := if_pos h

theorem requireSpv_unavailable {s : State} (h : s.spv = false) (r : Result) : requireSpv s r = .next s.unavailable :=
  if_neg (h ▸ Bool.false_ne_true)

/-- Settles O9: each AltiVec instruction tests MSR[SPV] first, once its privilege is granted. -/
theorem altiVecUnavailableTaken : Obligations.AltiVecUnavailableTaken := by
  intro i s hk hx hs
  refine ⟨s.unavailable, ?_, takeInterrupt_entered ..⟩
  obtain hk | ⟨hk, hepd, hpr⟩ := hk
  · obtain ⟨r, hr⟩ := exec_eq_requireSpv hk hx
    rw [hr, requireSpv_unavailable hs]
  · obtain ⟨r, hr⟩ := exec_eq_requireSupervisor hk hepd
    rw [hr, requireSupervisor_supervisor hpr, requireSpv_unavailable hs]

/-! ### Privileged instructions (rule R461) -/

/-- An instruction that raises `Program(privileged)` does nothing else. -/
theorem interrupts_of_privileged {i : Instr} {s : State} (h : exec i s = .next s.privileged) :
    Interrupts i s .program (some esrPpr) none :=
  ⟨_, h, takeInterrupt_entered ..⟩

/-- SRR0, SRR1, IVOR32 and IVOR33 are the supervisor registers among the SPRs. -/
theorem ofNum_supervisor {n : BitVec 10} (hn : n.toNat ∈ [26, 27, 528, 529]) :
    ∃ q, Spr.ofNum n = some q ∧ q.supervisor = true := by
  simp only [List.mem_cons, List.not_mem_nil, or_false] at hn
  unfold Spr.ofNum
  rcases hn with hn | hn | hn | hn <;> rw [hn] <;> exact ⟨_, rfl, rfl⟩

/-- Settles O11: each of these instructions tests MSR[PR] before it does anything. -/
theorem privilegedInstructionsTrap : Obligations.PrivilegedInstructionsTrap := by
  refine fun s hp => ⟨fun i hk hepd => ?_, interrupts_of_privileged (requireSupervisor_user hp _), fun r n hn => ?_⟩
  · obtain ⟨r, hr⟩ := exec_eq_requireSupervisor hk hepd
    exact interrupts_of_privileged (hr.trans (requireSupervisor_user hp _))
  · obtain ⟨q, hq, hsup⟩ := ofNum_supervisor hn
    exact ⟨interrupts_of_privileged (withSpr_privileged hq hsup hp _),
      interrupts_of_privileged (withSpr_privileged hq hsup hp _)⟩

/-! ### Storage interrupts directed to the guest (rule R462) -/

/-- What the entry clears in the MSR and what it keeps does not depend on where it is directed. -/
theorem takeInterrupt_msr_bits (s : State) (k : Interrupt) (syn : Option Word) (addr : Option DWord) (g : Bool) :
    (s.takeInterrupt k syn addr g).spv = false ∧ (s.takeInterrupt k syn addr g).prBit = false ∧
      ∀ j, j ≠ 25 → j ≠ 14 → (s.takeInterrupt k syn addr g).msr.getLsbD j = s.msr.getLsbD j :=
  have h := takeInterrupt_entered s k syn addr
  ⟨h.spv, h.pr, h.msr⟩

theorem storageInterrupt_msr_bits (s : State) (f : StorageFault) (g : Bool) (ea : DWord) (isStore isExternal : Bool) :
    let t := s.storageInterrupt f g ea isStore isExternal
    t.spv = false ∧ t.prBit = false ∧ ∀ j, j ≠ 25 → j ≠ 14 → t.msr.getLsbD j = s.msr.getLsbD j :=
  takeInterrupt_msr_bits ..

/-- An entry directed to the guest changes GSRR0, GSRR1, GESR, DEAR and the MSR, beside what had changed before. -/
theorem frame_takeInterrupt_toGuest {may : List Part} {s u : State} (h : Frame may s u) (k : Interrupt)
    (syn : Option Word) (addr : Option DWord) :
    Frame (.gsrr :: .msr :: .gesr :: .dear :: may) s (u.takeInterrupt k syn addr true) :=
  { frame_mono (more := .gsrr :: .msr :: .gesr :: .dear :: may) (fun _ hm => by simp [hm]) h with
    gsrr := fun hm => absurd (by simp) hm
    msr := fun hm => absurd (by simp) hm
    gesr := fun hm => absurd (by simp) hm
    dear := fun hm => absurd (by simp) hm }

/-- Before the storage interrupt, only a whole-vector load has changed something: its target and the free values. -/
theorem faultState_frame (i : Instr) (s : State) : Frame (partialTarget i) s (faultState i s) := by
  cases i with
  | lvx vd | lvxl vd | lvepx vd | lvepxl vd =>
    obtain ⟨v, hv⟩ := partialLoad_eq s vd
    simp only [faultState, partialTarget, hv]
    exact { frame_drawn_setVr s vd v 1 with }
  | _ => exact frame_refl _ s

/-- The registers that interrupt entry saves or reads are still those of `s`. -/
theorem faultState_entry (i : Instr) (s : State) :
    (faultState i s).pc = s.pc ∧ (faultState i s).msr = s.msr ∧ (faultState i s).modeAddr = s.modeAddr := by
  cases i with
  | lvx vd | lvxl vd | lvepx vd | lvepxl vd =>
    obtain ⟨v, hv⟩ := partialLoad_eq s vd
    simp only [faultState, hv]
    exact ⟨rfl, rfl, rfl⟩
  | _ => exact ⟨rfl, rfl, rfl⟩

/-- Settles O13: the interrupt every load and store takes, saved in the guest's registers. -/
theorem storageInterruptToGuest : Obligations.StorageInterruptToGuest := by
  intro i s a f ha hs hx ht
  have hframe := faultState_frame i s
  obtain ⟨hpc, hmsr, hmode⟩ := faultState_entry i s
  obtain ⟨hivpr, hivor2, -, -, hivor13⟩ := hframe.vectors
  refine ⟨_, exec_storageInterrupt ha hs hx ht, hpc, hmsr, ?_⟩
  rw [← syndrome_kind, ← hmode, ← hivpr, ← hivor2, ← hivor13, ← hmsr]
  obtain ⟨hspv, hpr, hbits⟩ :=
    storageInterrupt_msr_bits (faultState i s) f true a.addr (a.kind == .store) a.isExternal
  exact ⟨hspv, hpr, hbits, rfl, rfl, by cases f <;> rfl, frame_takeInterrupt_toGuest hframe ..⟩

/-! ### Alignment (rule R455) -/

/-- A left or right form whose translation succeeds takes the alignment interrupt where the effective address lies in
caching-inhibited or write-through memory. -/
theorem interrupts_alignment {i : Instr} {s u : State} {a ea real real' : DWord} {kind : AccessKind}
    {m m' : MemAttr} {ext : Bool} {go : DWord → Result}
    (h : exec i s = requireSpv s (access s a kind s.normalCtx ext u fun x => orAlignment s ea kind (go x)))
    (hs : s.spv = true) (hc : s.cfg.alignIntOnCIWT = true) (ht : s.translate a kind s.normalCtx = .ok real' m')
    (hea : s.translate ea kind s.normalCtx = .ok real m) (hm : (m.cachingInhibited || m.writeThrough) = true) :
    Interrupts i s .alignment (some (syndrome (kind == .store) false)) (some ea) := by
  refine ⟨_, h.trans ?_, takeInterrupt_entered ..⟩
  rw [requireSpv_access_ok hs ht, orAlignment, hc, ciOrWt_ok hea, hm]
  rfl

/-- What holds of an instruction and of its LRU form. -/
theorem forall_mem_pair {i j : Instr} {p : Instr → Prop} (hi : p i) (hj : p j) : ∀ x ∈ [i, j], p x :=
  List.forall_mem_cons.2 ⟨hi, List.forall_mem_singleton.2 hj⟩

/-- Settles O14: a left form translates EA itself, a right form the start of its quad word. -/
theorem alignmentInterruptTaken : Obligations.AlignmentInterruptTaken := by
  refine fun s r ra rb real m hs hc => ⟨fun hea hm => ?_, fun hea hm => ?_⟩
  · exact ⟨forall_mem_pair (interrupts_alignment rfl hs hc hea hea hm) (interrupts_alignment rfl hs hc hea hea hm),
      fun _ _ ht => forall_mem_pair (interrupts_alignment rfl hs hc ht hea hm) (interrupts_alignment rfl hs hc ht hea hm)⟩
  · exact ⟨forall_mem_pair (interrupts_alignment rfl hs hc hea hea hm) (interrupts_alignment rfl hs hc hea hea hm),
      fun _ _ ht => forall_mem_pair (interrupts_alignment rfl hs hc ht hea hm) (interrupts_alignment rfl hs hc ht hea hm)⟩

/-! ### AltiVec assist (rule R444) -/

/-- Each of the 20 instructions that read floating-point elements has the assist test after `RequireSPV()`. -/
theorem exec_eq_orAssist {i : Instr} {s : State} {src : List Word} (h : floatSources i s = some src) :
    ∃ r, exec i s = requireSpv s (orAssist i src s r) := by
  cases i with
  | vrfin | vrfiz | vrfip | vrfim | vrefp | vrsqrtefp | vlogefp | vexptefp | vctuxs | vctsxs | vaddfp | vsubfp | vmaxfp
  | vminfp | vcmpeqfp | vcmpgefp | vcmpgtfp | vcmpbfp | vmaddfp | vnmsubfp =>
    cases h
    exact ⟨_, rfl⟩
  | _ => cases h

/-- Settles O15: the test asks for a denormalized element and for the policy, and two of the policies do not look at it. -/
theorem assistInterruptTaken : Obligations.AssistInterruptTaken := by
  refine fun i s src hsrc hs => ⟨fun hden hpol => ?_, ?_⟩
  · obtain ⟨r, hr⟩ := exec_eq_orAssist hsrc
    have hdue : assistDue i src s = true := by rw [assistDue, hden, Cfg.wantsAssist, hpol]; rfl
    exact ⟨_, by rw [hr, requireSpv, if_pos hs, orAssist_eq, if_pos hdue], takeInterrupt_entered ..⟩
  · rintro (hden | hpol)
    · rw [assistDue, hden, Bool.false_and]
    · rw [assistDue, Cfg.wantsAssist, hpol, Bool.and_false]

/-! ### Return from interrupt (rule R451) -/

/-- `rfi` in supervisor state. -/
theorem exec_rfi {s : State} (h : s.prBit = false) : exec .rfi s = .next s.returnFromInterrupt :=
  requireSupervisor_supervisor h _

/-- Clearing the last two bits of an address changes nothing where they are clear. -/
theorem clearLow_of_aligned {a : DWord} (h : a.setWidth 2 = 0#2) : a &&& ~~~3#64 = a := by
  have hlow : ∀ j < 2, a.getLsbD j = false := fun j hj => by
    simpa [hj] using congrArg (fun x : BitVec 2 => x.getLsbD j) h
  have hmask : ~~~3#64 = BitVec.allOnes 64 <<< 2 := rfl
  apply BitVec.eq_of_getLsbD_eq
  intro j hj
  by_cases hj2 : j < 2
  · rw [BitVec.getLsbD_and, hlow j hj2, Bool.false_and]
  · rw [BitVec.getLsbD_and, hmask, BitVec.getLsbD_shiftLeft, BitVec.getLsbD_allOnes]
    simp [hj, hj2]
    omega

/-- Returning from an interrupt not directed to the guest leaves the four registers the entry wrote, and nothing else. -/
theorem frame_takeInterrupt_return (s : State) (k : Interrupt) (syn : Option Word) (addr : Option DWord) :
    Frame [.srr0, .srr1, .esr, .dear] s (s.takeInterrupt k syn addr false).returnFromInterrupt :=
  { frame_refl [.srr0, .srr1, .esr, .dear] s with
    srr0 := fun hm => absurd (by simp) hm
    srr1 := fun hm => absurd (by simp) hm
    esr := fun hm => absurd (by simp) hm
    dear := fun hm => absurd (by simp) hm }

/-- Settles O16: an entry leaves supervisor state with the MSR in SRR1 and the pc in SRR0, where `rfi` takes them from. -/
theorem rfiRestoresMsrAndPc : Obligations.RfiRestoresMsrAndPc := by
  refine ⟨fun s hp => ⟨_, exec_rfi hp, rfl, rfl, ?_⟩, fun s k syn addr => ?_⟩
  · exact { frame_refl [.msr] s with msr := absurd (List.mem_singleton_self _) }
  · have h := takeInterrupt_entered s k syn addr
    refine ⟨_, exec_rfi h.pr, h.srr1, fun ha => ?_, frame_takeInterrupt_return ..⟩
    exact congrArg s.modeAddr (clearLow_of_aligned ha)

end Sys2Proof.Machine
end

section
/-! Steps: a step is `exec` of the decoded word, the stops have names, and a step in user state is confined. -/

namespace Sys2Proof.Machine

open Sys2Proof

/-! ### What a step runs, and where it stops (rules R430, R443, R478) -/

/-- Settles O1: a fetch goes on with the word at the translated pc, and its decoding is run. -/
theorem stepRunsDecodedInstruction : Obligations.StepRunsDecodedInstruction := by
  intro s i real m ha ht hd
  rw [step, fetch_ok ha ht, runWord, State.readWord, hd]

/-- Every SPR number that a rule gives is one of seven. -/
theorem ofNum_none {n : BitVec 10} (hn : n.toNat ∉ [8, 9, 26, 27, 256, 528, 529]) : Spr.ofNum n = none := by
  simp only [List.mem_cons, List.not_mem_nil, or_false, not_or] at hn
  obtain ⟨h8, h9, h26, h27, h256, h528, h529⟩ := hn
  unfold Spr.ofNum
  split
  case h_8 => rfl
  all_goals contradiction

/-- Without category E.PD an external-PID instruction is none of the machine's (rule R102). -/
theorem externalPid_absent {s : State} (h : s.cfg.hasEPD = false) (name : String) (r : Result) :
    LeftToBase s (.categoryAbsent name) (externalPid name s r) := by
  rw [externalPid, h]
  exact orBase_spec ..

/-- An SPR number that no rule gives (rule R430). -/
theorem withSpr_left {n : BitVec 10} (hn : n.toNat ∉ [8, 9, 26, 27, 256, 528, 529]) (s : State) (go : Spr → Result) :
    LeftToBase s (.sprNotListed n) (withSpr n s go) := by
  rw [withSpr_none (ofNum_none hn)]
  exact orBase_spec ..

/-- Settles O2: the fetch has two stops of its own; every other is the one place where a word is left to the base
machine. -/
theorem stopsHaveNames : Obligations.StopsHaveNames := by
  refine ⟨fun s ha => if_neg ha, fun s => baseMachine_refuse, fun s f g ha ht => ?_, fun s w real m ha ht hd => ?_,
    fun s r ra rb hepd => ?_, fun s vd ra rb h32 => ?_, fun s r n hn => ⟨withSpr_left hn s _, withSpr_left hn s _⟩⟩
  · rw [step, fetch, if_pos ha, State.fetchXlat, ht]
  · rw [step, fetch_ok ha ht, runWord, hd]
    exact orBase_spec ..
  · exact ⟨externalPid_absent hepd .., externalPid_absent hepd .., externalPid_absent hepd ..,
      externalPid_absent hepd ..⟩
  · rw [exec_mvidsplt_of_not_impl64 h32]
    exact orBase_spec ..

/-! ### User state (rule R460) -/

/-- What a user program cannot write, and the pc: the state with every register and byte that it can write set to zero. -/
def State.supervisorPart (s : State) : State :=
  { s with
    vrs := Vector.replicate 32 0, vscr := 0, vrsave := 0, cr := 0, gprs := Vector.replicate 32 0, ctr := 0, lr := 0
    xerCA := false, mem := [], freeCtr := 0 }

/-- A byte write is to memory alone. -/
theorem supervisorPart_writeBytes (s : State) (a : DWord) (n : Nat) (f : Nat → Byte) :
    (s.writeBytes a n f).supervisorPart = s.supervisorPart := by
  simp [State.supervisorPart]

/-- An SPR that is accessible in user state is LR, CTR or VRSAVE. -/
theorem supervisorPart_writeSpr {q : Spr} (hq : q.supervisor = false) (s : State) (v : DWord) :
    (s.writeSpr q v).supervisorPart = s.supervisorPart := by
  cases q with
  | lr | ctr | vrsave => rfl
  | srr0 | srr1 | ivor32 | ivor33 => cases hq

/-- No write of an instruction in user state reaches a supervisor register. -/
theorem supervisorPart_writes {i : Instr} {s u : State} (hp : s.prBit = true) (hw : Writes i s u) :
    u.supervisorPart = s.supervisorPart := by
  induction hw with
  | none => rfl
  | draw _ _ ih | vr _ _ _ ih | orSat _ _ ih | cr6 _ _ ih | vscr _ _ _ ih | gpr _ _ _ ih | carry _ _ ih
  | count _ _ ih => exact ih
  | spr q rs hq _ ih =>
    have huser : q.supervisor = false := Bool.eq_false_of_not_eq_true fun h => by simp [hq h] at hp
    exact (supervisorPart_writeSpr huser ..).trans ih
  | bytes a n f _ ih => exact (supervisorPart_writeBytes ..).trans ih

/-- The vectors and the translation contexts, which an interrupt keeps too. -/
structure VectorsKept (s t : State) : Prop where
  ivpr : t.ivpr = s.ivpr
  ivor : ∀ k, t.ivor k = s.ivor k
  eplc : t.eplc = s.eplc
  epsc : t.epsc = s.epsc
  pid : t.pid = s.pid
  lpidr : t.lpidr = s.lpidr

/-- The registers that an interrupt writes. -/
structure StatusKept (s t : State) : Prop where
  msr : t.msr = s.msr
  srr0 : t.srr0 = s.srr0
  srr1 : t.srr1 = s.srr1
  gsrr0 : t.gsrr0 = s.gsrr0
  gsrr1 : t.gsrr1 = s.gsrr1
  esr : t.esr = s.esr
  gesr : t.gesr = s.gesr
  dear : t.dear = s.dear

/-- `t` is at a handler, with MSR[PR] and MSR[SPV] clear and the pc and the MSR of `s` saved (rules R450, R462). -/
structure AtHandler (s t : State) : Prop where
  pr : t.prBit = false
  spv : t.spv = false
  msr : ∀ j, j ≠ 25 → j ≠ 14 → t.msr.getLsbD j = s.msr.getLsbD j
  pc : ∃ k, t.pc = s.modeAddr (s.ivpr ++ s.ivor k)
  saved : (t.srr0 = s.pc ∧ t.srr1 = s.msr) ∨ (t.gsrr0 = s.pc ∧ t.gsrr1 = s.msr)

theorem vectorsKept_of_supervisorPart {s u : State} (h : u.supervisorPart = s.supervisorPart) : VectorsKept s u where
  ivpr := (congrArg State.ivpr h :)
  ivor k := (congrArg (State.ivor · k) h :)
  eplc := (congrArg State.eplc h :)
  epsc := (congrArg State.epsc h :)
  pid := (congrArg State.pid h :)
  lpidr := (congrArg State.lpidr h :)

theorem statusKept_of_supervisorPart {s u : State} (h : u.supervisorPart = s.supervisorPart) : StatusKept s u where
  msr := (congrArg State.msr h :)
  srr0 := (congrArg State.srr0 h :)
  srr1 := (congrArg State.srr1 h :)
  gsrr0 := (congrArg State.gsrr0 h :)
  gsrr1 := (congrArg State.gsrr1 h :)
  esr := (congrArg State.esr h :)
  gesr := (congrArg State.gesr h :)
  dear := (congrArg State.dear h :)

/-- An interrupt taken after user writes is at a handler of `s`, whose pc and MSR it has saved. -/
theorem atHandler_takeInterrupt {s u : State} (h : u.supervisorPart = s.supervisorPart) (k : Interrupt)
    (syn : Option Word) (addr : Option DWord) (g : Bool) : AtHandler s (u.takeInterrupt k syn addr g) := by
  obtain ⟨hspv, hpr, hbits⟩ := takeInterrupt_msr_bits u k syn addr g
  have hpc : u.pc = s.pc := (congrArg State.pc h :)
  have hmsr : u.msr = s.msr := (congrArg State.msr h :)
  have hhandler : u.modeAddr (u.ivpr ++ u.ivor k) = s.modeAddr (s.ivpr ++ s.ivor k) :=
    (congrArg (fun v : State => v.modeAddr (v.ivpr ++ v.ivor k)) h :)
  refine ⟨hpr, hspv, fun j h25 h14 => (hbits j h25 h14).trans (by rw [hmsr]), ⟨k, hhandler⟩, ?_⟩
  cases g with
  | false => exact .inl ⟨hpc, hmsr⟩
  | true => exact .inr ⟨hpc, hmsr⟩

/-- What an instruction of the model does in user state. -/
theorem effect_confined {i : Instr} {s t : State} (hp : s.prBit = true) (he : Effect i s t) :
    VectorsKept s t ∧ (StatusKept s t ∨ AtHandler s t) := by
  cases he with
  | completes hw | branches _ hw =>
    have h := supervisorPart_writes hp hw
    exact ⟨{ vectorsKept_of_supervisorPart h with }, .inl { statusKept_of_supervisorPart h with }⟩
  | interrupted k syn addr g hw =>
    have h := supervisorPart_writes hp hw
    exact ⟨{ vectorsKept_of_supervisorPart h with }, .inr (atHandler_takeInterrupt h k syn addr g)⟩
  | returns hs => exact absurd hp (hs ▸ Bool.false_ne_true)

/-- Settles O59: a step has an effect of a known form, or is the base machine's; of the writes of an effect none reaches a
supervisor register in user state, and `rfi` has no effect there. -/
theorem userStateIsConfined : Obligations.UserStateIsConfined := by
  intro s t hp h
  refine (step_effect h).imp_right fun ⟨i, he⟩ => ?_
  obtain ⟨hv, hs⟩ := effect_confined hp he
  refine ⟨hv.ivpr, hv.ivor, hv.eplc, hv.epsc, hv.pid, hv.lpidr, hs.imp (fun hk => ?_) fun hh => ?_⟩
  · exact ⟨hk.msr, hk.srr0, hk.srr1, hk.gsrr0, hk.gsrr1, hk.esr, hk.gesr, hk.dear⟩
  · exact ⟨hh.pr, hh.spv, hh.msr, hh.pc, hh.saved⟩

end Sys2Proof.Machine
end
